-- ==== Sys2Proof/Word.lean ====
section
/-! DEFINITION. The bit-vector types the spec gives the block's registers and words (10_state.md R21, 30_encoding.md R72).
Bit 0 is the least significant bit of every value (R11). -/

namespace Sys2Proof

/-- A stimulus word: 40 bits (R72). -/
abbrev StimWord := BitVec 40

/-- A timestamp, `now`, or an elapsed time: `TS_W` = 32 bits of microseconds (R9, R75). -/
abbrev Time := BitVec 32

/-- A RawFrame as the 40-bit value `F`, byte 0 most significant (R51). -/
abbrev Frame := BitVec 40

/-- A reading in tenths: 16 bits, two's complement (R32, R33). -/
abbrev Tenths := BitVec 16

/-- A quality counter: `CNT_W` = 32 bits, unsigned (R34). -/
abbrev Count := BitVec 32

/-- The scheduler's delay counter: `REM_W` = 16 bits, unsigned (R38). -/
abbrev DelayTicks := BitVec 16

end Sys2Proof
end

