-- ==== Sys2Proof/Config.lean ====
section
/-! DEFINITION. The configuration of 00_scope.md R9: a record fixed at reset, a parameter of the step. `RawConfig` is what an
integrator writes down, `Config` one that meets the constraints of R9 and R193, `RawConfig.check` the refusal of any other. -/

namespace Sys2Proof

/-- The twelve parameters of R9 as written down, before any constraint is checked (`FRAME_BYTES` is fixed at 5, "not a
parameter"). -/
structure RawConfig where
  tsW : Nat
  tBitUs : Nat
  tWakeUs : Nat
  tStartUs : Nat
  tTimeoutUs : Nat
  plausDt : Nat
  plausDrh : Nat
  defaultDelay : Nat
  shortDelay : Nat
  remW : Nat
  cntW : Nat
  deriving DecidableEq, Repr

/-- A configuration of this block: the parameters of R9 with the constraints of R193. The widths are those of the types
(`TS_W` = 32, `REM_W` = 16, `CNT_W` = 32), the only ones the spec defines (R9, R75). -/
structure Config where
  /-- `T_BIT_US`: a high pulse longer than this decodes as 1. -/
  tBitUs : Nat
  /-- `T_WAKE_US`: the wake hold. -/
  tWakeUs : Nat
  /-- `T_START_US`: the start hold. -/
  tStartUs : Nat
  /-- `T_TIMEOUT_US`: the frame-completion timeout, measured from the arm step. -/
  tTimeoutUs : Nat
  /-- `PLAUS_DT`: the largest temperature change accepted, in tenths. -/
  plausDt : Nat
  /-- `PLAUS_DRH`: the largest humidity change accepted, in tenths. -/
  plausDrh : Nat
  /-- `DEFAULT_DELAY`, in ticks. -/
  defaultDelay : Nat
  /-- `SHORT_DELAY`, in ticks. -/
  shortDelay : Nat
  wake_ge : 2000 ≤ tWakeUs
  start_ge : 800 ≤ tStartUs
  timeout_ge : 10000 ≤ tTimeoutUs
  timeout_le : tTimeoutUs ≤ 99999
  defaultDelay_lt : defaultDelay < 2 ^ 16
  shortDelay_lt : shortDelay < 2 ^ 16
  deriving DecidableEq, Repr

/-- The constraints of R9 and R193 on the parameters as written down. -/
abbrev RawConfig.Meets (r : RawConfig) : Prop :=
  r.tsW = 32 ∧ r.remW = 16 ∧ r.cntW = 32 ∧ 2000 ≤ r.tWakeUs ∧ 800 ≤ r.tStartUs ∧ 10000 ≤ r.tTimeoutUs ∧
    r.tTimeoutUs ≤ 99999 ∧ r.defaultDelay < 2 ^ 16 ∧ r.shortDelay < 2 ^ 16

/-- R193: "A model refuses a configuration that breaks a constraint". -/
def RawConfig.check (r : RawConfig) : Option Config :=
  if h : r.Meets then
    some
      { tBitUs := r.tBitUs, tWakeUs := r.tWakeUs, tStartUs := r.tStartUs, tTimeoutUs := r.tTimeoutUs,
        plausDt := r.plausDt, plausDrh := r.plausDrh, defaultDelay := r.defaultDelay, shortDelay := r.shortDelay,
        wake_ge := h.2.2.2.1, start_ge := h.2.2.2.2.1, timeout_ge := h.2.2.2.2.2.1, timeout_le := h.2.2.2.2.2.2.1,
        defaultDelay_lt := h.2.2.2.2.2.2.2.1, shortDelay_lt := h.2.2.2.2.2.2.2.2 }
  else none

/-- The OPEN value of `T_TIMEOUT_US` (R9, 92_eei_decisions.md D9), as its distance from 10000; nothing is known of it but
the range 10000..99999. DESIGN CHOICE, log entry 3. -/
opaque Config.openTimeout : Fin 90000

/-- The OPEN value of `DEFAULT_DELAY` (R9, D16). DESIGN CHOICE, log entry 3. -/
opaque Config.openDefaultDelay : DelayTicks

/-- The OPEN value of `SHORT_DELAY` (R9, D16). DESIGN CHOICE, log entry 3. -/
opaque Config.openShortDelay : DelayTicks

/-- A free value: the other 39 bits of a frame that holds no value when R98 stores its first bit into it, as a function of the
row's operands. No rule gives these bits (R48, R54), and no run from reset stores such a bit. DEDUCED, log entry 9. -/
opaque Config.unwrittenFrame (ts tsHigh : Time) (byteIdx bitIdx : BitVec 3) : Frame

/-- The configuration that `State.reset` carries: the source's default wherever R9 gives one, an opaque value for each OPEN
parameter. DESIGN CHOICE, log entry 3 (R9: the defaults are unaudited). -/
def Config.standard : Config where
  tBitUs := 40
  tWakeUs := 2000
  tStartUs := 800
  tTimeoutUs := Config.openTimeout.val + 10000
  plausDt := 50
  plausDrh := 100
  defaultDelay := Config.openDefaultDelay.toNat
  shortDelay := Config.openShortDelay.toNat
  wake_ge := Nat.le_refl 2000
  start_ge := Nat.le_refl 800
  timeout_ge := Nat.le_add_left 10000 _
  timeout_le := Nat.add_le_add_right (Nat.le_of_lt_succ Config.openTimeout.isLt) 10000
  defaultDelay_lt := Config.openDefaultDelay.isLt
  shortDelay_lt := Config.openShortDelay.isLt

/-- TESTCFG (R10) as written down: the fixture of every test vector of 95_test_vectors.md. -/
def RawConfig.testcfg : RawConfig where
  tsW := 32
  tBitUs := 40
  tWakeUs := 2000
  tStartUs := 800
  tTimeoutUs := 20000
  plausDt := 50
  plausDrh := 100
  defaultDelay := 2
  shortDelay := 1
  remW := 16
  cntW := 32

/-- TESTCFG (R10) as a configuration of the block. -/
def Config.testcfg : Config where
  tBitUs := 40
  tWakeUs := 2000
  tStartUs := 800
  tTimeoutUs := 20000
  plausDt := 50
  plausDrh := 100
  defaultDelay := 2
  shortDelay := 1
  wake_ge := by decide
  start_ge := by decide
  timeout_ge := by decide
  timeout_le := by decide
  defaultDelay_lt := by decide
  shortDelay_lt := by decide

end Sys2Proof
end

