-- ==== Sys2Proof/Syntax.lean ====
section
/-! DEFINITION. The names the spec gives (state codes of 30_encoding.md R68 to R71, line operations of R120, outcomes of
43_scheduler.md R154) and `Instr`, one constructor per row of spec/opcode_table.json: the five stimuli and REFUSED, the
Edge Decoder's rows (R76), the Orchestrator's phases (R77), the TICK arms (R78) and the internal operations, which have no
word of their own. -/

namespace Sys2Proof

/-- DecoderState (R22, R68): six states, and the two reserved codes that 3 bits leave over (R69). -/
inductive DecState where
  | awaitingLow | awaitingHigh | awaitingBitLow | awaitingBitHigh | awaitingBitFalling | idle
  | reserved6 | reserved7
  deriving DecidableEq, Repr

/-- Orchestrator phase (R28, R70). -/
inductive OrcPhase where
  | idle | wake | start | wait
  deriving DecidableEq, Repr

/-- Line mode, the last line operation issued (R30, R70), and the reserved code 3 (R69). -/
inductive LineMode where
  | read | high | low | reserved3
  deriving DecidableEq, Repr

/-- Scheduler mode (R37, R70), and the reserved code 3 (R69). -/
inductive SchState where
  | run | busy | stopped | reserved3
  deriving DecidableEq, Repr

/-- Status code of the last transaction that ended (R35, R71), and the reserved code 7 (R69). -/
inductive Status where
  | none | acceptFirst | accept | checksum | plaus | timeout | line | reserved7
  deriving DecidableEq, Repr

/-- The line operations (R46, R120). -/
inductive LineOp where
  | driveHigh | driveLow | readMode
  deriving DecidableEq, Repr

/-- The result of a line operation in the log (R46). -/
inductive LineResult where
  | ok | err
  deriving DecidableEq, Repr

/-- The outcome handed to TXN_END (R154): the Orchestrator's two errors and the Validator's four results. -/
inductive TxnOutcome where
  | lineError | timeoutError | checksumError | plausibilityError | acceptedFirst | accepted
  deriving DecidableEq, Repr

/-- Why a word spells no stimulus: the condition of R74 that it meets. -/
inductive BadWord where
  | kind | rsv | lerr | level | value
  deriving DecidableEq, Repr

/-- One constructor per row of spec/opcode_table.json. `lerr` is the `LERR` bit of the current stimulus word (41_orchestrator.md,
introduction); `ts` its `VALUE` for the rows that use it. -/
inductive Instr where
  /-- TRANS `ts`, `level` (R91). -/
  | trans (ts : Time) (level : Bool)
  /-- TIME `t`, with its line-error draw (R157). -/
  | time (t : Time) (lerr : Bool)
  /-- TICK, with its line-error draw (R78). -/
  | tick (lerr : Bool)
  /-- STOP (R158). -/
  | stop
  /-- RESET (R190). -/
  | reset
  /-- REFUSED: the word `w` spells no stimulus (R74). -/
  | refused (w : StimWord)
  /-- Key 0: `AwaitingLow`, level 0 (R92). -/
  | decAwaitLowL0
  /-- Key 1: `AwaitingLow`, level 1 (R93). -/
  | decAwaitLowL1
  /-- Key 2: `AwaitingHigh`, level 0 (R97). -/
  | decAwaitHighL0
  /-- Key 3: `AwaitingHigh`, level 1 (R94). -/
  | decAwaitHighL1
  /-- Key 4: `AwaitingBitLow`, level 0 (R95). -/
  | decAwaitBitLowL0
  /-- Key 5: `AwaitingBitLow`, level 1 (R101). -/
  | decAwaitBitLowL1
  /-- Key 6: `AwaitingBitHigh`, level 0 (R102). -/
  | decAwaitBitHighL0
  /-- Key 7: `AwaitingBitHigh`, level 1 (R96). -/
  | decAwaitBitHighL1 (ts : Time)
  /-- Key 8: `AwaitingBitFalling`, level 0 (R98). -/
  | decAwaitBitFallL0 (ts : Time)
  /-- Key 9: `AwaitingBitFalling`, level 1 (R103). -/
  | decAwaitBitFallL1
  /-- Keys 10 and 11: `Idle`, level `level` (R100). -/
  | decIdle (level : Bool)
  /-- Keys 12 to 15: reserved `dec_state` code `code`, level `level` (R104). -/
  | decReserved (code : BitVec 3) (level : Bool)
  /-- Key 8, the sub-case in which the new `byte_idx` is 5 (R99). -/
  | decComplete
  /-- `orc_phase` 0 (R114). -/
  | orcIdle
  /-- `orc_phase` 1 (R113). -/
  | orcWake (lerr : Bool)
  /-- `orc_phase` 2 (R115). -/
  | orcStart (lerr : Bool)
  /-- `orc_phase` 3 (R116); no operand, since no line operation is issued there (R119). -/
  | orcWait
  /-- `S_RUN`, `remaining` > 0 (R152). -/
  | tickCountdown
  /-- `S_RUN`, `remaining` = 0 (R153). -/
  | tickStart (lerr : Bool)
  /-- `S_BUSY` (R151); `remZero` is the key's bit 0. -/
  | tickBusy (remZero : Bool)
  /-- `S_STOPPED` (R162). -/
  | tickStopped (remZero : Bool)
  /-- `sch_state` code 3 (R69). -/
  | tickReserved (remZero : Bool)
  /-- STEP of the stimulus word `w` (R150). -/
  | step (w : StimWord)
  /-- ORC_EVAL (R112). -/
  | orcEval (lerr : Bool)
  /-- ARM (R90). -/
  | arm
  /-- TXN_START (R111). -/
  | txnStart (lerr : Bool)
  /-- TXN_COMPLETE (R117). -/
  | txnComplete
  /-- TXN_TIMEOUT (R118). -/
  | txnTimeout
  /-- TXN_LINE_ERROR (R119). -/
  | txnLineError
  /-- LINE_OP: `emit LineOp(op)`; `release` says that it is R119's release (R120). -/
  | lineOp (op : LineOp) (lerr : Bool) (release : Bool)
  /-- VALIDATE (R130). -/
  | validate
  /-- TXN_END (R154). -/
  | txnEnd (outcome : TxnOutcome)
  deriving DecidableEq, Repr

end Sys2Proof
end

