-- ==== Sys2Proof/WellFormed.lean ====
section
/-! DEFINITION. Which instructions the spec's tables admit. Field widths are in the types; what is left is that REFUSED
names a word that spells no stimulus (R74), that DEC_RESERVED names a reserved code (R68, R69) and that the release of
R119 is the operation READ_MODE (R119, R120). -/

namespace Sys2Proof

/-- R74, condition by condition, on the word's bits (R72): the word spells no stimulus. -/
def spellsNothing (w : StimWord) : Bool :=
  let kind := (w >>> 36).toNat
  (kind == 0 || 6 ≤ kind)
    || w.getLsbD 34 || w.getLsbD 35
    || (w.getLsbD 33 && kind != 2 && kind != 3)
    || (w.getLsbD 32 && kind != 1)
    || (w.toNat % 2 ^ 32 != 0 && (kind == 3 || kind == 4 || kind == 5))

/-- The instructions that spec/opcode_table.json and the rules behind it admit. -/
def Instr.WellFormed : Instr → Bool
  | .refused w => spellsNothing w
  | .decReserved code _ => code == 6#3 || code == 7#3
  | .lineOp op _ release => !release || op == .readMode
  | .trans _ _ | .time _ _ | .tick _ | .stop | .reset => true
  | .decAwaitLowL0 | .decAwaitLowL1 | .decAwaitHighL0 | .decAwaitHighL1 | .decAwaitBitLowL0 | .decAwaitBitLowL1 => true
  | .decAwaitBitHighL0 | .decAwaitBitHighL1 _ | .decAwaitBitFallL0 _ | .decAwaitBitFallL1 | .decIdle _ | .decComplete => true
  | .orcIdle | .orcWake _ | .orcStart _ | .orcWait => true
  | .tickCountdown | .tickStart _ | .tickBusy _ | .tickStopped _ | .tickReserved _ => true
  | .step _ | .orcEval _ | .arm | .txnStart _ | .txnComplete | .txnTimeout | .txnLineError | .validate | .txnEnd _ => true

end Sys2Proof
end

