-- ==== Sys2Proof/Decode.lean ====
section
/-! DEFINITION. Decoding, total on every word and key, and after it the encoder: the stimulus word (30_encoding.md R72 to
R75), the internal decode keys (R76 to R78), the state codes (R68 to R71), and the host's `decodeTableWord`. -/

namespace Sys2Proof

/-! ## The state codes (R68, R70, R71) -/

/-- R68. -/
def DecState.code : DecState → BitVec 3
  | .awaitingLow => 0
  | .awaitingHigh => 1
  | .awaitingBitLow => 2
  | .awaitingBitHigh => 3
  | .awaitingBitFalling => 4
  | .idle => 5
  | .reserved6 => 6
  | .reserved7 => 7

/-- R68: the state a 3-bit code names. -/
def DecState.ofCode (c : BitVec 3) : DecState :=
  match c.toNat with
  | 0 => .awaitingLow
  | 1 => .awaitingHigh
  | 2 => .awaitingBitLow
  | 3 => .awaitingBitHigh
  | 4 => .awaitingBitFalling
  | 5 => .idle
  | 6 => .reserved6
  | _ => .reserved7

/-- R70. -/
def OrcPhase.code : OrcPhase → BitVec 2
  | .idle => 0
  | .wake => 1
  | .start => 2
  | .wait => 3

/-- R70: the phase a 2-bit code names. -/
def OrcPhase.ofCode (c : BitVec 2) : OrcPhase :=
  match c.toNat with
  | 0 => .idle
  | 1 => .wake
  | 2 => .start
  | _ => .wait

/-- R70. -/
def LineMode.code : LineMode → BitVec 2
  | .read => 0
  | .high => 1
  | .low => 2
  | .reserved3 => 3

/-- R70. -/
def SchState.code : SchState → BitVec 2
  | .run => 0
  | .busy => 1
  | .stopped => 2
  | .reserved3 => 3

/-- R70: the scheduler mode a 2-bit code names. -/
def SchState.ofCode (c : BitVec 2) : SchState :=
  match c.toNat with
  | 0 => .run
  | 1 => .busy
  | 2 => .stopped
  | _ => .reserved3

/-- R71. -/
def Status.code : Status → BitVec 3
  | .none => 0
  | .acceptFirst => 1
  | .accept => 2
  | .checksum => 3
  | .plaus => 4
  | .timeout => 5
  | .line => 6
  | .reserved7 => 7

/-! ## The stimulus word (R72 to R75) -/

/-- `KIND`, bits 39 to 36 (R72). -/
def stimKind (w : StimWord) : BitVec 4 := w.extractLsb' 36 4

/-- `RSV`, bits 35 and 34 (R72). -/
def stimRsv (w : StimWord) : BitVec 2 := w.extractLsb' 34 2

/-- `LERR`, bit 33 (R72). -/
def stimLerr (w : StimWord) : Bool := w.getLsbD 33

/-- `LEVEL`, bit 32 (R72). -/
def stimLevel (w : StimWord) : Bool := w.getLsbD 32

/-- `VALUE`, bits 31 to 0 (R72), read as a 32-bit time (R75). -/
def stimValue (w : StimWord) : Time := w.extractLsb' 0 32

/-- The stimulus that `w` spells by `KIND` (R73), or REFUSED where a field outside the kind's set is not 0 (R74). -/
def decodeStim (w : StimWord) : Instr :=
  if stimRsv w ≠ 0 then .refused w
  else
    match (stimKind w).toNat with
    | 1 => if stimLerr w = true then .refused w else .trans (stimValue w) (stimLevel w)
    | 2 => if stimLevel w = true then .refused w else .time (stimValue w) (stimLerr w)
    | 3 => if stimLevel w = true ∨ stimValue w ≠ 0 then .refused w else .tick (stimLerr w)
    | 4 => if stimLerr w = true ∨ stimLevel w = true ∨ stimValue w ≠ 0 then .refused w else .stop
    | 5 => if stimLerr w = true ∨ stimLevel w = true ∨ stimValue w ≠ 0 then .refused w else .reset
    | _ => .refused w

/-- The name under which a refused word is refused: the first condition of R74, in the rule's order, that it meets.
DESIGN CHOICE, log entry 6 (the name is the model's; the refusal is R74's). -/
def whyRefused (w : StimWord) : BadWord :=
  if stimKind w = 0 ∨ 6 ≤ (stimKind w).toNat then .kind
  else if stimRsv w ≠ 0 then .rsv
  else if stimLerr w ∧ stimKind w ≠ 2 ∧ stimKind w ≠ 3 then .lerr
  else if stimLevel w ∧ stimKind w ≠ 1 then .level
  else .value

/-! ## The internal decode keys (R76 to R78) -/

/-- R76: `key = dec_state * 2 + level`. -/
def decKey (d : DecState) (level : Bool) : BitVec 4 := d.code ++ BitVec.ofBool level

/-- R78 and the table's TICKSEL rows: `key = sch_state * 2 + (remaining = 0 ? 1 : 0)`. -/
def tickKey (m : SchState) (remZero : Bool) : BitVec 3 := m.code ++ BitVec.ofBool remZero

/-- What an opcode-table row with bits is selected by: a stimulus word, or an internal key with the operands that the
current stimulus word gives the row. `completes` is the condition of the row DEC_COMPLETE, "byte_idx becomes 5 after the
advance", which the key does not hold (R99). -/
inductive Code where
  | stim (w : StimWord)
  | dec (key : BitVec 4) (ts : Time) (completes : Bool)
  | orc (key : BitVec 2) (lerr : Bool)
  | tick (key : BitVec 3) (lerr : Bool)
  deriving DecidableEq, Repr

/-- The Edge Decoder's row for a key (R76). -/
def decodeDec (key : BitVec 4) (ts : Time) (completes : Bool) : Instr :=
  match key.toNat with
  | 0 => .decAwaitLowL0
  | 1 => .decAwaitLowL1
  | 2 => .decAwaitHighL0
  | 3 => .decAwaitHighL1
  | 4 => .decAwaitBitLowL0
  | 5 => .decAwaitBitLowL1
  | 6 => .decAwaitBitHighL0
  | 7 => .decAwaitBitHighL1 ts
  | 8 => if completes then .decComplete else .decAwaitBitFallL0 ts
  | 9 => .decAwaitBitFallL1
  | 10 => .decIdle false
  | 11 => .decIdle true
  | 12 => .decReserved 6 false
  | 13 => .decReserved 6 true
  | 14 => .decReserved 7 false
  | _ => .decReserved 7 true

/-- The Orchestrator's arm for a phase code (R77). -/
def decodeOrc (key : BitVec 2) (lerr : Bool) : Instr :=
  match key.toNat with
  | 0 => .orcIdle
  | 1 => .orcWake lerr
  | 2 => .orcStart lerr
  | _ => .orcWait

/-- The TICK arm for a key (R78, R69). -/
def decodeTick (key : BitVec 3) (lerr : Bool) : Instr :=
  match key.toNat with
  | 0 => .tickCountdown
  | 1 => .tickStart lerr
  | 2 => .tickBusy false
  | 3 => .tickBusy true
  | 4 => .tickStopped false
  | 5 => .tickStopped true
  | 6 => .tickReserved false
  | _ => .tickReserved true

/-- The row that a word or key selects. -/
def decode : Code → Instr
  | .stim w => decodeStim w
  | .dec key ts completes => decodeDec key ts completes
  | .orc key lerr => decodeOrc key lerr
  | .tick key lerr => decodeTick key lerr

/-! ## The encoder -/

/-- R72: `KIND << 36 | LERR << 33 | LEVEL << 32 | VALUE`, with `RSV` = 0. -/
def stimWord (kind : BitVec 4) (lerr level : Bool) (value : BitVec 32) : StimWord :=
  kind ++ 0#2 ++ BitVec.ofBool lerr ++ BitVec.ofBool level ++ value

/-- The word or key of a row. The table's INTERNAL rows have "no word of its own" and get none. An operand that a row does
not use is 0 in its key's stimulus word. -/
def encode : Instr → Option Code
  | .trans ts level => some (.stim (stimWord 1 false level ts))
  | .time t lerr => some (.stim (stimWord 2 lerr false t))
  | .tick lerr => some (.stim (stimWord 3 lerr false 0))
  | .stop => some (.stim (stimWord 4 false false 0))
  | .reset => some (.stim (stimWord 5 false false 0))
  | .refused w => some (.stim w)
  | .decAwaitLowL0 => some (.dec 0 0 false)
  | .decAwaitLowL1 => some (.dec 1 0 false)
  | .decAwaitHighL0 => some (.dec 2 0 false)
  | .decAwaitHighL1 => some (.dec 3 0 false)
  | .decAwaitBitLowL0 => some (.dec 4 0 false)
  | .decAwaitBitLowL1 => some (.dec 5 0 false)
  | .decAwaitBitHighL0 => some (.dec 6 0 false)
  | .decAwaitBitHighL1 ts => some (.dec 7 ts false)
  | .decAwaitBitFallL0 ts => some (.dec 8 ts false)
  | .decAwaitBitFallL1 => some (.dec 9 0 false)
  | .decIdle level => some (.dec (5#3 ++ BitVec.ofBool level) 0 false)
  | .decReserved code level => some (.dec (code ++ BitVec.ofBool level) 0 false)
  | .decComplete => some (.dec 8 0 true)
  | .orcIdle => some (.orc 0 false)
  | .orcWake lerr => some (.orc 1 lerr)
  | .orcStart lerr => some (.orc 2 lerr)
  | .orcWait => some (.orc 3 false)
  | .tickCountdown => some (.tick 0 false)
  | .tickStart lerr => some (.tick 1 lerr)
  | .tickBusy remZero => some (.tick (1#2 ++ BitVec.ofBool remZero) false)
  | .tickStopped remZero => some (.tick (2#2 ++ BitVec.ofBool remZero) false)
  | .tickReserved remZero => some (.tick (3#2 ++ BitVec.ofBool remZero) false)
  | .step _ => none
  | .orcEval _ => none
  | .arm => none
  | .txnStart _ => none
  | .txnComplete => none
  | .txnTimeout => none
  | .txnLineError => none
  | .lineOp _ _ _ => none
  | .validate => none
  | .txnEnd _ => none

/-- The stimulus word of an instruction that has one. -/
def encodeStim (i : Instr) : Option StimWord :=
  match encode i with
  | some (.stim w) => some w
  | _ => none

/-! ## The host's view of the opcode table -/

/-- The host's question: the row read from a number of `nbits` bits. 40 bits are a stimulus word. The table's keys are 4 bits
(DEC), 3 bits (TICKSEL) and 2 bits (ORC) wide; a key stored in a whole byte does not say which of the three it is, and a
byte is read as a DEC key (log entry 5). -/
def decodeTableWord (nbits w : Nat) : Option Instr :=
  match nbits with
  | 40 => if w < 2 ^ 40 then some (decode (.stim (BitVec.ofNat 40 w))) else none
  | 8 => if w < 16 then some (decode (.dec (BitVec.ofNat 4 w) 0 false)) else none
  | 4 => if w < 16 then some (decode (.dec (BitVec.ofNat 4 w) 0 false)) else none
  | 3 => if w < 8 then some (decode (.tick (BitVec.ofNat 3 w) false)) else none
  | 2 => if w < 4 then some (decode (.orc (BitVec.ofNat 2 w) false)) else none
  | _ => none

end Sys2Proof
end

