-- ==== Sys2Proof/Machine/State.lean ====
section
/-! DEFINITION. The machine's state (10_state.md R21), the reasons a step can stop, and the state after reset (R47). -/

namespace Sys2Proof.Machine

/-- The registers that hold "no value" until a rule writes them and that a rule reads (R47, R48). `rd_t` and `rd_rh` start
without a value too, and no rule reads them. -/
inductive ValueReg where
  | frame | tsHigh | phaseT0 | rxFrame | prevT | prevRh
  deriving DecidableEq, Repr

/-- The registers other than `dec_state` that have reserved codes (R69). -/
inductive CodedReg where
  | byteIdx | lineMode | schState | lastStatus
  deriving DecidableEq, Repr

/-- Why a step faults. The spec's faults all name a rule (R14) and none is reachable from reset (R14, R48, R69). -/
inductive Fault where
  /-- `dec_state` holds code 6 or 7: `fault(R104)`. Raised by the row DEC_RESERVED and by every stimulus but RESET that
  finds the code (R69). Safe: the spec's own fault. -/
  | reservedDecState
  /-- Another register holds, or would be written with, a reserved code (R69). Raised by every stimulus but RESET that
  finds one, by the row TICK_RESERVED, and by the cursor's advance past 5. Safe: the spec's own fault. -/
  | reservedCode (reg : CodedReg)
  /-- A register that holds no value is read. R48: a model "treats a read of it as a fault", and 93_implementation_defined.md I2
gives the same treatment. Raised by the operation that reads it, never by one that writes it. Safe: the spec's own fault. -/
  | noValue (reg : ValueReg)
  /-- FrameSetBit at a byte index above 4; the frame has bytes 0..4 (R50). Raised by the row DEC_AWAITBITFALL_L0. Safe: no
  state reached from reset has it (R45 invariant 1). -/
  | noFrameByte
  deriving DecidableEq, Repr

/-- The number of the rule that a fault names (R14). -/
def Fault.rule : Fault → Nat
  | .reservedDecState => 104
  | .reservedCode _ => 69
  | .noValue _ => 48
  | .noFrameByte => 50

/-- Why no step is taken. -/
inductive Refusal where
  /-- The instruction has no meaning yet. Raised by `exec` only. Safe: the model stops. -/
  | notModelled (mnemonic : String)
  /-- The word spells no stimulus: "a model refuses it" (R74, R14). Raised by REFUSED, and by STEP and `step` on such a word.
  Safe: the spec's own refusal. -/
  | illFormedWord (why : BadWord)
  /-- The environment has delivered no stimulus, so there is no step to take (R3: one step per stimulus). Raised by `step`.
  Safe: the model stops where the block waits. -/
  | noStimulus
  /-- The configuration breaks a constraint: "A model refuses a configuration that breaks a constraint" (R193). Raised by
  `boot`. Safe: the spec's own refusal. -/
  | badConfiguration
  deriving DecidableEq, Repr

/-- One entry of the line-operation log (R46). -/
abbrev LogEntry := LineOp × LineResult

/-- The whole state of the block and nothing else: the record of R21 in its order, the line-operation log (R46) and the two
marks (R14, R21). A register of R47's "no value" kind is an Option, `none` being the spec's "no value" (R48). -/
structure Block where
  decState : DecState
  byteIdx : BitVec 3
  bitIdx : BitVec 3
  frame : Option Frame
  tsHigh : Option Time
  done : Bool
  orcPhase : OrcPhase
  phaseT0 : Option Time
  lineMode : LineMode
  now : Time
  rxFrame : Option Frame
  rdT : Option Tenths
  rdRh : Option Tenths
  prevValid : Bool
  prevT : Option Tenths
  prevRh : Option Tenths
  attempts : Count
  accepted : Count
  lastStatus : Status
  schState : SchState
  remaining : DelayTicks
  stopReq : Bool
  log : List LogEntry
  faultMark : Option Fault
  refusalMark : Bool
  deriving DecidableEq, Repr

/-- What the host's `step : State → …` takes: the block's state, with the two things that R21 and R150 make parameters of the
step, for which the host's form has no argument. `cfg` is the configuration, which no operation writes (log entry 3), and
`stimuli` the words the environment has delivered and the block has not yet taken (log entry 4). `blockStep`
(Machine/Run.lean) is the step in R21's form. -/
structure State extends Block where
  cfg : Config
  stimuli : List StimWord
  deriving DecidableEq, Repr

/-- The reset values of R47: "The RESET stimulus, and the start of a model's run, set every register as below". The log is
empty and no mark is set. -/
def Block.reset : Block where
  decState := .idle
  byteIdx := 0
  bitIdx := 7
  frame := none
  tsHigh := none
  done := false
  orcPhase := .idle
  phaseT0 := none
  lineMode := .read
  now := 0
  rxFrame := none
  rdT := none
  rdRh := none
  prevValid := false
  prevT := none
  prevRh := none
  attempts := 0
  accepted := 0
  lastStatus := .none
  schState := .run
  remaining := 0
  stopReq := false
  log := []
  faultMark := none
  refusalMark := false

/-- The block after reset under a configuration, with no stimulus delivered. -/
def State.resetWith (cfg : Config) : State := { toBlock := Block.reset, cfg := cfg, stimuli := [] }

/-- The machine right after reset (R47), under the source's default configuration with its OPEN parameters left open
(log entry 3). -/
def State.reset : State := State.resetWith Config.standard

end Sys2Proof.Machine
end

