-- ==== Sys2Proof/Machine/Operands.lean ====
section
/-! DEFINITION. Every operand form the rules use: the pseudocode's primitives (00_scope.md R12), the frame's bytes and fields
(20_memory.md R51 to R53, 30_encoding.md R65, R66; 42_validator.md R133, R134), elapsed times, the counters' increment and
the delay table (43_scheduler.md R155). -/

namespace Sys2Proof.Machine

/-- `wrapsub_N(a, b) = (a - b) mod 2^N` (R12). -/
def wrapsub {n : Nat} (a b : BitVec n) : BitVec n := a - b

/-- `sat_N(x) = min(x, 2^N - 1)` (R12). -/
def satN (n x : Nat) : Nat := min x (2 ^ n - 1)

/-- `zext_N(v)` (R12). -/
def zext {n : Nat} (v : BitVec n) : Nat := v.toNat

/-- `sext_N(v)` (R12). -/
def sext {n : Nat} (v : BitVec n) : Int := v.toInt

/-- `zext(wrapsub_32(a, b))`: the microseconds from `b` to `a` (R98, R113, R115, R116, R181). -/
def elapsed (a b : Time) : Nat := zext (wrapsub a b)

/-- `sat_CNT_W(c + 1)` (R34, R111, R130). -/
def satInc (c : Count) : Count := BitVec.ofNat 32 (satN 32 (zext c + 1))

/-! ## The frame (R51) -/

/-- Byte `k` of the frame: `F[39-8k : 32-8k]` (R51). MemRead(k, 1) of R13, for `k` in 0..4. -/
def frameByte (F : Frame) (k : Nat) : BitVec 8 := F.extractLsb' (32 - 8 * k) 8

/-- MemWrite(k, 1, v) of R13, for `k` in 0..4: byte `k` becomes `v`, the others keep their values. -/
def frameWriteByte (F : Frame) (k : Nat) (v : BitVec 8) : Frame :=
  (F &&& ~~~(0xFF#40 <<< (32 - 8 * k))) ||| (v.setWidth 40 <<< (32 - 8 * k))

/-- The bit of `F` that the cursor addresses: `F[8*(4 - byte_idx) + bit_idx]` (R52). -/
def cursorBit (byteIdx bitIdx : BitVec 3) : Nat := 8 * (4 - byteIdx.toNat) + bitIdx.toNat

/-- FrameSetBit (R13, R98): the cursor's bit becomes 1, for a byte index in 0..4. -/
def frameSetBit (F : Frame) (byteIdx bitIdx : BitVec 3) : Frame :=
  F ||| (1#40 <<< cursorBit byteIdx bitIdx)

/-- `hum(F) = sext_16(F[39:24])` (R66, R133). -/
def humidity (F : Frame) : Int := sext (F.extractLsb' 24 16)

/-- `temp(F)`: magnitude `zext_15(F[22:8])`, negated if `F[23]` = 1 (R66, R134). -/
def temperature (F : Frame) : Int :=
  let m : Int := zext (F.extractLsb' 8 15)
  if F.getLsbD 23 then -m else m

/-- An exact integer as a 16-bit two's complement register value (R32, R140). -/
def toTenths (x : Int) : Tenths := BitVec.ofInt 16 x

/-! ## The delay table (R155) -/

/-- `delay(outcome)` (R155). -/
def delay (cfg : Config) : TxnOutcome → DelayTicks
  | .lineError => BitVec.ofNat 16 cfg.defaultDelay
  | .timeoutError => BitVec.ofNat 16 cfg.defaultDelay
  | .checksumError => BitVec.ofNat 16 cfg.shortDelay
  | .plausibilityError => BitVec.ofNat 16 cfg.shortDelay
  | .acceptedFirst => BitVec.ofNat 16 cfg.shortDelay
  | .accepted => BitVec.ofNat 16 cfg.defaultDelay

end Sys2Proof.Machine
end

