-- ==== Sys2Proof/Machine/Flags.lean ====
section
/-! DEFINITION. Every one-bit test the rules make: the bit threshold (R98), the end of a hold or of the timeout (R113, R115,
R116), the checksum (R131), plausibility (R135), the line-error draw (R120), and the derived output `data_valid` (R41). -/

namespace Sys2Proof.Machine

/-- `elapsed > T_BIT_US`: the pulse from `t0` to `ts` decodes as 1 (R98, R105). -/
def longPulse (cfg : Config) (ts t0 : Time) : Bool := decide (elapsed ts t0 > cfg.tBitUs)

/-- `wrapsub_32(now, phase_t0) >= bound` (R113, R115, R116). -/
def holdOver (now t0 : Time) (bound : Nat) : Bool := decide (bound ≤ elapsed now t0)

/-- `checksum_ok(F)` (R131): the unsigned sum of bytes 0 to 3, mod 256, equals byte 4. -/
def checksumOk (F : Frame) : Bool :=
  decide ((zext (frameByte F 0) + zext (frameByte F 1) + zext (frameByte F 2) + zext (frameByte F 3)) % 256
    = zext (frameByte F 4))

/-- `implausible(t, rh, pt, prh)` (R135), on exact integers. -/
def implausible (cfg : Config) (t rh pt prh : Int) : Bool :=
  decide ((t - pt).natAbs > cfg.plausDt) || decide ((rh - prh).natAbs > cfg.plausDrh)

/-- The result of a line operation (R120): it fails when `lerr` = 1, it is the step's first (the step's log is empty), and
it is not R119's release. -/
def lineResult (log : List LogEntry) (lerr release : Bool) : LineResult :=
  if lerr && log.isEmpty && !release then .err else .ok

/-- `data_valid`: 1 exactly when `accepted` ≥ 2 (R41). -/
def dataValid (accepted : Count) : Bool := decide (2 ≤ accepted.toNat)

end Sys2Proof.Machine
end

