-- ==== Sys2Proof/Machine/Ops.lean ====
section
/-! DEFINITION. The shared operations over the state. ARM (R90), LINE_OP (R120), the end of a transaction, with or without an
error (R154, R175, and R118, R119), reset (R190), the marks (R14), the search for reserved codes (R69), and the sequencing
of sub-steps (R13, R150). -/

namespace Sys2Proof.Machine

/-- What a sub-step or a step answers (R14). -/
abbrev Result := Host.Outcome State Fault Refusal

/-- Sub-steps in order: "a later sub-step reads what an earlier one wrote" (R13). The first stop is the step's. -/
def andThen (r : Result) (k : State → Result) : Result :=
  match r with
  | .next s => k s
  | .fault f => .fault f
  | .refused x => .refused x

/-! ## Marks and reserved codes -/

/-- "a model keeps the fault" (R14): the first fault stays recorded, and the state is kept (R104). -/
def markFault (f : Fault) (s : State) : State := { s with faultMark := some (s.faultMark.getD f) }

/-- "a model marks the refusal" (R14, R74): nothing else changes. -/
def markRefusal (s : State) : State := { s with refusalMark := true }

/-- R69: the reserved code that a model finds in a state, if any, as the fault it is treated as. DEDUCED, log entry 8 (which
stimuli look, and the order of the search). -/
def reservedFound (s : State) : Option Fault :=
  if s.decState = .reserved6 ∨ s.decState = .reserved7 then some .reservedDecState
  else if 6 ≤ s.byteIdx.toNat then some (.reservedCode .byteIdx)
  else if s.lineMode = .reserved3 then some (.reservedCode .lineMode)
  else if s.schState = .reserved3 then some (.reservedCode .schState)
  else if s.lastStatus = .reserved7 then some (.reservedCode .lastStatus)
  else none

/-- R69 at the head of a stimulus's step: a state with a reserved code faults. -/
def guardReserved (s : State) (k : State → Result) : Result :=
  match reservedFound s with
  | some f => .fault f
  | none => k s

/-- R150: `log <- []`, the step's fresh line-operation log. -/
def freshLog (s : State) : State := { s with log := [] }

/-! ## Edge Decoder -/

/-- ARM (R90): `ts_high` is not written. -/
def armDecoder (s : State) : State :=
  { s with decState := .awaitingLow, byteIdx := 0, bitIdx := 7, frame := some 0, done := false }

/-- R99: `dec_state <- Idle`, `done <- 1`. -/
def completeFrame (s : State) : State := { s with decState := .idle, done := true }

/-! ## Line operations and the end of a transaction -/

/-- LINE_OP (R120): append the operation with its result to the step's log. -/
def emitLineOp (op : LineOp) (lerr release : Bool) (s : State) : State :=
  { s with log := s.log ++ [(op, lineResult s.log lerr release)] }

/-- TXN_END (R154): the delay of R155, and `S_STOPPED` if a stop was requested, else `S_RUN`. -/
def endTransaction (o : TxnOutcome) (s : State) : State :=
  { s with remaining := delay s.cfg o, schState := if s.stopReq then .stopped else .run }

/-- An Orchestrator error ends the transaction (R170, R175): the status is recorded, the phase is `O_IDLE`, and TXN_END runs.
What R118 and R119 share. There is no return from an error (R176). -/
def raiseError (st : Status) (o : TxnOutcome) (s : State) : State :=
  endTransaction o { s with lastStatus := st, orcPhase := .idle }

/-- R118: the decoder, the line mode, the Reading and the baseline keep their values. -/
def timeoutError (s : State) : State := raiseError .timeout .timeoutError s

/-- R119: a best-effort release, which never fails, then the error. -/
def lineError (s : State) : State :=
  raiseError .line .lineError { emitLineOp .readMode false true s with lineMode := .read }

/-- `emit LineOp(op)` and "if it fails, raise LineError, else go on" (R111, R113, R115, R120). -/
def emitOrFail (op : LineOp) (lerr : Bool) (s : State) (k : State → State) : State :=
  match lineResult s.log lerr false with
  | .err => lineError (emitLineOp op lerr false s)
  | .ok => k (emitLineOp op lerr false s)

/-- R111: count the attempt, drive the line high, enter `O_WAKE`. -/
def startTransaction (lerr : Bool) (s : State) : State :=
  emitOrFail .driveHigh lerr { s with attempts := satInc s.attempts } fun s =>
    { s with lineMode := .high, orcPhase := .wake, phaseT0 := some s.now }

/-- R113, the hold being over: drive the line low, enter `O_START`. -/
def endWakeHold (lerr : Bool) (s : State) : State :=
  emitOrFail .driveLow lerr s fun s => { s with lineMode := .low, orcPhase := .start, phaseT0 := some s.now }

/-- R115, the hold being over: release, read mode and ARM, enter `O_WAIT`. -/
def endStartHold (lerr : Bool) (s : State) : State :=
  emitOrFail .driveHigh lerr s fun s =>
    { armDecoder (emitLineOp .readMode lerr false s) with lineMode := .read, orcPhase := .wait, phaseT0 := some s.now }

/-! ## Reset -/

/-- R190: every register to its value of R47, the log empty. The marks are "bookkeeping of the model, not registers, and RESET
does not clear them"; the configuration is fixed; the stimuli still to come are the environment's. -/
def resetRegisters (s : State) : State :=
  { State.resetWith s.cfg with faultMark := s.faultMark, refusalMark := s.refusalMark, stimuli := s.stimuli }

/-- The start of a run under a configuration: R193's refusal, else the state of R47 (R190: "as if RESET had just been
taken"). -/
def boot (r : RawConfig) : Result :=
  match r.check with
  | some c => .next (State.resetWith c)
  | none => .refused .badConfiguration

end Sys2Proof.Machine
end

