-- ==== Sys2Proof/Machine/Decoder.lean ====
section
/-! DEFINITION. The Edge Decoder (40_decoder.md): ARM and the rows of the transition table (30_encoding.md R76). A row's
meaning is its pseudocode as a sub-step; TRANS chooses the row (R91), `Machine/Stimuli.lean`. -/

namespace Sys2Proof.Machine

/-- ARM (R90). -/
def execArm (s : State) : Result := .next (armDecoder s)

/-- Key 0 (R92): `dec_state <- AwaitingHigh`. -/
def execDecAwaitLowL0 (s : State) : Result := .next { s with decState := .awaitingHigh }

/-- Key 1 (R93): ignored. -/
def execDecAwaitLowL1 (s : State) : Result := .next s

/-- Key 2 (R97): ignored. -/
def execDecAwaitHighL0 (s : State) : Result := .next s

/-- Key 3 (R94): `dec_state <- AwaitingBitLow`. -/
def execDecAwaitHighL1 (s : State) : Result := .next { s with decState := .awaitingBitLow }

/-- Key 4 (R95): cursor to byte 0, bit 7, frame cleared, `AwaitingBitHigh`. -/
def execDecAwaitBitLowL0 (s : State) : Result :=
  .next { s with byteIdx := 0, bitIdx := 7, frame := some 0, decState := .awaitingBitHigh }

/-- Key 5 (R101): ignored. -/
def execDecAwaitBitLowL1 (s : State) : Result := .next s

/-- Key 6 (R102): ignored. -/
def execDecAwaitBitHighL0 (s : State) : Result := .next s

/-- Key 7 (R96): `ts_high <- ts`, `AwaitingBitFalling`. -/
def execDecAwaitBitHighL1 (ts : Time) (s : State) : Result :=
  .next { s with tsHigh := some ts, decState := .awaitingBitFalling }

/-- R99, the sub-case of key 8 in which the new `byte_idx` is 5: `Idle`, `done <- 1`. -/
def execDecComplete (s : State) : Result := .next (completeFrame s)

/-- R98's bit store: FrameSetBit when the pulse is long, else "the bit stays 0". It is a write of one bit (R54) and reads no
other: into a frame that holds no value it leaves the free value `unwritten` with that bit set. A long pulse at a byte index
above 4 faults (R50). Log entry 9. -/
def storeBit (long : Bool) (unwritten : Frame) (s : State) : Result :=
  if long then
    if 4 < s.byteIdx.toNat then .fault .noFrameByte
    else .next { s with frame := some (frameSetBit (s.frame.getD unwritten) s.byteIdx s.bitIdx) }
  else .next s

/-- R98's cursor advance, to `(nb, bit_idx)`: completion at `nb` = 5 (R99), else `AwaitingBitHigh`. A byte index above 5 has no
legal code and faults: "No rule writes a reserved code" (R69; log entry 9). -/
def advanceCursor (s : State) : Result :=
  let nb := if s.bitIdx = 0 then s.byteIdx.toNat + 1 else s.byteIdx.toNat
  let bit : BitVec 3 := if s.bitIdx = 0 then 7 else s.bitIdx - 1
  if 5 < nb then .fault (.reservedCode .byteIdx)
  else if nb = 5 then execDecComplete { s with byteIdx := 5, bitIdx := bit }
  else .next { s with byteIdx := BitVec.ofNat 3 nb, bitIdx := bit, decState := .awaitingBitHigh }

/-- Key 8 (R98): measure, store, advance. A read of `ts_high` while it holds no value is a fault (R48). -/
def execDecAwaitBitFallL0 (ts : Time) (s : State) : Result :=
  match s.tsHigh with
  | none => .fault (.noValue .tsHigh)
  | some t0 =>
    andThen (storeBit (longPulse s.cfg ts t0) (Config.unwrittenFrame ts t0 s.byteIdx s.bitIdx) s) advanceCursor

/-- Key 9 (R103): ignored; `ts_high` is not re-recorded. -/
def execDecAwaitBitFallL1 (s : State) : Result := .next s

/-- Keys 10 and 11 (R100): ignored, whatever the level. -/
def execDecIdle (_level : Bool) (s : State) : Result := .next s

/-- Keys 12 to 15 (R104): `fault(R104)`. -/
def execDecReserved (_code : BitVec 3) (_level : Bool) (_s : State) : Result := .fault .reservedDecState

end Sys2Proof.Machine
end

