-- ==== Sys2Proof/Machine/Validator.lean ====
section
/-! DEFINITION. The Validator and its plausibility filter (42_validator.md). -/

namespace Sys2Proof.Machine

/-- VALIDATE's result (R130), with the decoded temperature and humidity where the checksum passed. -/
inductive Verdict where
  | checksumError
  | plausibilityError (t rh : Int)
  | acceptedFirst (t rh : Int)
  | accepted (t rh : Int)
  deriving DecidableEq, Repr

/-- The outcome that a verdict hands to TXN_END (R154). -/
def verdictOutcome : Verdict → TxnOutcome
  | .checksumError => .checksumError
  | .plausibilityError _ _ => .plausibilityError
  | .acceptedFirst _ _ => .acceptedFirst
  | .accepted _ _ => .accepted

/-- A frame that passed the checksum and the filter (R130, R136). -/
def acceptance (t rh : Int) (s : State) : Verdict :=
  if s.accepted = 0 then .acceptedFirst t rh else .accepted t rh

/-- VALIDATE's decision (R130): checksum (R131), then, where a baseline exists, plausibility (R135), then acceptance (R136).
Reading a register that holds no value faults (R48). -/
def judge (s : State) : Except Fault Verdict :=
  match s.rxFrame with
  | none => .error (.noValue .rxFrame)
  | some F =>
    if checksumOk F then
      if s.prevValid then
        match s.prevT, s.prevRh with
        | none, _ => .error (.noValue .prevT)
        | some _, none => .error (.noValue .prevRh)
        | some pt, some prh =>
          if implausible s.cfg (temperature F) (humidity F) (sext pt) (sext prh) then
            .ok (.plausibilityError (temperature F) (humidity F))
          else .ok (acceptance (temperature F) (humidity F) s)
      else .ok (acceptance (temperature F) (humidity F) s)
    else .ok .checksumError

/-- R137: the decode becomes the baseline. -/
def setBaseline (t rh : Int) (s : State) : State :=
  { s with prevValid := true, prevT := some (toTenths t), prevRh := some (toTenths rh) }

/-- R138: the decode becomes the Reading, and `accepted` counts it. -/
def acceptReading (t rh : Int) (s : State) : State :=
  { s with rdT := some (toTenths t), rdRh := some (toTenths rh), accepted := satInc s.accepted }

/-- VALIDATE's writes (R130, R132, R137 to R139). -/
def applyVerdict (v : Verdict) (s : State) : State :=
  match v with
  | .checksumError => { s with lastStatus := .checksum }
  | .plausibilityError t rh => { setBaseline t rh s with lastStatus := .plaus }
  | .acceptedFirst t rh => { acceptReading t rh (setBaseline t rh s) with lastStatus := .acceptFirst }
  | .accepted t rh => { acceptReading t rh (setBaseline t rh s) with lastStatus := .accept }

/-- VALIDATE (R130). -/
def execValidate (s : State) : Result :=
  match judge s with
  | .error f => .fault f
  | .ok v => .next (applyVerdict v s)

end Sys2Proof.Machine
end

