-- ==== Sys2Proof/Machine/Orchestrator.lean ====
section
/-! DEFINITION. The Transaction Orchestrator (41_orchestrator.md): line operations, the transaction's start and three ends,
the four phases, and the one evaluation per step. -/

namespace Sys2Proof.Machine

/-- LINE_OP (R120). -/
def execLineOp (op : LineOp) (lerr release : Bool) (s : State) : Result := .next (emitLineOp op lerr release s)

/-- TXN_LINE_ERROR (R119). -/
def execTxnLineError (s : State) : Result := .next (lineError s)

/-- TXN_TIMEOUT (R118). -/
def execTxnTimeout (s : State) : Result := .next (timeoutError s)

/-- TXN_START (R111). -/
def execTxnStart (lerr : Bool) (s : State) : Result := .next (startTransaction lerr s)

/-- R117's hand-off: `rx_frame <- frame`, `O_IDLE`. -/
def handOff (F : Frame) (s : State) : State := { s with rxFrame := some F, orcPhase := .idle }

/-- R117 after the hand-off: VALIDATE, then TXN_END with its result. -/
def concludeFrame (s : State) : Result :=
  match judge s with
  | .error f => .fault f
  | .ok v => .next (endTransaction (verdictOutcome v) (applyVerdict v s))

/-- TXN_COMPLETE (R117): copy the frame by value, VALIDATE, TXN_END. A `frame` that holds no value is not copied: the read is a
fault (R48). -/
def execTxnComplete (s : State) : Result :=
  match s.frame with
  | none => .fault (.noValue .frame)
  | some F => concludeFrame (handOff F s)

/-- `O_IDLE` (R114): no change; `done` is not read. -/
def execOrcIdle (s : State) : Result := .next s

/-- `O_WAKE` (R113). A read of `phase_t0` while it holds no value is a fault (R48). -/
def execOrcWake (lerr : Bool) (s : State) : Result :=
  match s.phaseT0 with
  | none => .fault (.noValue .phaseT0)
  | some t0 => if holdOver s.now t0 s.cfg.tWakeUs then .next (endWakeHold lerr s) else .next s

/-- `O_START` (R115). A read of `phase_t0` while it holds no value is a fault (R48). -/
def execOrcStart (lerr : Bool) (s : State) : Result :=
  match s.phaseT0 with
  | none => .fault (.noValue .phaseT0)
  | some t0 => if holdOver s.now t0 s.cfg.tStartUs then .next (endStartHold lerr s) else .next s

/-- `O_WAIT` (R116): completion is tested before the timeout (R123), so `phase_t0` is read only with `done` = 0, and that
read is a fault while it holds no value (R48). -/
def execOrcWait (s : State) : Result :=
  if s.done then execTxnComplete s
  else
    match s.phaseT0 with
    | none => .fault (.noValue .phaseT0)
    | some t0 => if holdOver s.now t0 s.cfg.tTimeoutUs then execTxnTimeout s else .next s

/-- ORC_EVAL (R112): the phase chooses the arm (R77). -/
def execOrcEval (lerr : Bool) (s : State) : Result :=
  match s.orcPhase with
  | .idle => execOrcIdle s
  | .wake => execOrcWake lerr s
  | .start => execOrcStart lerr s
  | .wait => execOrcWait s

end Sys2Proof.Machine
end

