-- ==== Sys2Proof/Machine/Scheduler.lean ====
section
/-! DEFINITION. The Poll Scheduler (43_scheduler.md): the TICK arms and TXN_END. -/

namespace Sys2Proof.Machine

/-- TXN_END (R154, R155). -/
def execTxnEnd (o : TxnOutcome) (s : State) : Result := .next (endTransaction o s)

/-- R152: `remaining <- remaining - 1`. -/
def execTickCountdown (s : State) : Result := .next { s with remaining := s.remaining - 1 }

/-- R153: `sch_state <- S_BUSY`, then TXN_START. -/
def execTickStart (lerr : Bool) (s : State) : Result :=
  execTxnStart lerr { s with schState := .busy }

/-- R151: dropped; `remaining` does not count down. -/
def execTickBusy (_remZero : Bool) (s : State) : Result := .next s

/-- R162: ignored. -/
def execTickStopped (_remZero : Bool) (s : State) : Result := .next s

/-- R69, the table's row for `sch_state` code 3: fault. -/
def execTickReserved (_remZero : Bool) (_s : State) : Result := .fault (.reservedCode .schState)

end Sys2Proof.Machine
end

