-- ==== Sys2Proof/Machine/Stimuli.lean ====
section
/-! DEFINITION. The five stimuli, REFUSED, and STEP (43_scheduler.md R150). Each is one atomic step: a fresh line-operation
log, the stimulus's own effect, then, except after RESET, ORC_EVAL exactly once. -/

namespace Sys2Proof.Machine

/-- R150 around a stimulus other than RESET: reserved codes fault (R69), the log is fresh, the stimulus's own effect runs,
and ORC_EVAL settles. -/
def settled (lerr : Bool) (primary : State → Result) (s : State) : Result :=
  guardReserved s fun s => andThen (primary (freshLog s)) (execOrcEval lerr)

/-- R91's dispatch by `{dec_state, level}` (R76). -/
def transition (ts : Time) (level : Bool) (s : State) : Result :=
  match s.decState, level with
  | .awaitingLow, false => execDecAwaitLowL0 s
  | .awaitingLow, true => execDecAwaitLowL1 s
  | .awaitingHigh, false => execDecAwaitHighL0 s
  | .awaitingHigh, true => execDecAwaitHighL1 s
  | .awaitingBitLow, false => execDecAwaitBitLowL0 s
  | .awaitingBitLow, true => execDecAwaitBitLowL1 s
  | .awaitingBitHigh, false => execDecAwaitBitHighL0 s
  | .awaitingBitHigh, true => execDecAwaitBitHighL1 ts s
  | .awaitingBitFalling, false => execDecAwaitBitFallL0 ts s
  | .awaitingBitFalling, true => execDecAwaitBitFallL1 s
  | .idle, level => execDecIdle level s
  | .reserved6, level => execDecReserved 6 level s
  | .reserved7, level => execDecReserved 7 level s

/-- The TICK dispatch by `sch_state` and `remaining` = 0 (R78). -/
def tickArm (lerr : Bool) (s : State) : Result :=
  match s.schState with
  | .run => if s.remaining = 0 then execTickStart lerr s else execTickCountdown s
  | .busy => execTickBusy (s.remaining == 0) s
  | .stopped => execTickStopped (s.remaining == 0) s
  | .reserved3 => execTickReserved (s.remaining == 0) s

/-- R157: `now <- t`. -/
def setNow (t : Time) (s : State) : State := { s with now := t }

/-- R158: latch the request; in `S_RUN` stop at once. -/
def requestStop (s : State) : State :=
  { s with stopReq := true, schState := if s.schState = .run then .stopped else s.schState }

/-- TRANS (R91); `lerr` is 0 for a TRANSITION. -/
def execTrans (ts : Time) (level : Bool) (s : State) : Result := settled false (transition ts level) s

/-- TIME (R157). -/
def execTime (t : Time) (lerr : Bool) (s : State) : Result := settled lerr (fun s => .next (setNow t s)) s

/-- TICK (R78, R151 to R153, R162). -/
def execTick (lerr : Bool) (s : State) : Result := settled lerr (tickArm lerr) s

/-- STOP (R158); `lerr` is 0 for a STOP. -/
def execStop (s : State) : Result := settled false (fun s => .next (requestStop s)) s

/-- RESET (R190): no settle, and no TXN_END. -/
def execReset (s : State) : Result := .next (resetRegisters s)

/-- REFUSED (R74, R14): "refused: no step is taken". -/
def execRefused (w : StimWord) (_s : State) : Result := .refused (.illFormedWord (whyRefused w))

/-- STEP (R150): the stimulus that the word spells, chosen by `KIND`. -/
def execStep (w : StimWord) (s : State) : Result :=
  match decodeStim w with
  | .trans ts level => execTrans ts level s
  | .time t lerr => execTime t lerr s
  | .tick lerr => execTick lerr s
  | .stop => execStop s
  | .reset => execReset s
  | _ => execRefused w s

end Sys2Proof.Machine
end

