-- ==== Sys2Proof/Machine/Dispatch.lean ====
section
/-! DEFINITION. `exec`: one arm per constructor of `Instr`, each one direct call of its meaning. -/

namespace Sys2Proof.Machine

def exec (i : Instr) (s : State) : Host.Outcome State Fault Refusal :=
  match i with
  -- the stimuli (30_encoding.md R73) and REFUSED (R74)
  | .trans ts level => Sys2Proof.Machine.execTrans ts level s
  | .time t lerr => Sys2Proof.Machine.execTime t lerr s
  | .tick lerr => Sys2Proof.Machine.execTick lerr s
  | .stop => Sys2Proof.Machine.execStop s
  | .reset => Sys2Proof.Machine.execReset s
  | .refused w => Sys2Proof.Machine.execRefused w s
  -- the Edge Decoder's rows (R76)
  | .decAwaitLowL0 => Sys2Proof.Machine.execDecAwaitLowL0 s
  | .decAwaitLowL1 => Sys2Proof.Machine.execDecAwaitLowL1 s
  | .decAwaitHighL0 => Sys2Proof.Machine.execDecAwaitHighL0 s
  | .decAwaitHighL1 => Sys2Proof.Machine.execDecAwaitHighL1 s
  | .decAwaitBitLowL0 => Sys2Proof.Machine.execDecAwaitBitLowL0 s
  | .decAwaitBitLowL1 => Sys2Proof.Machine.execDecAwaitBitLowL1 s
  | .decAwaitBitHighL0 => Sys2Proof.Machine.execDecAwaitBitHighL0 s
  | .decAwaitBitHighL1 ts => Sys2Proof.Machine.execDecAwaitBitHighL1 ts s
  | .decAwaitBitFallL0 ts => Sys2Proof.Machine.execDecAwaitBitFallL0 ts s
  | .decAwaitBitFallL1 => Sys2Proof.Machine.execDecAwaitBitFallL1 s
  | .decIdle level => Sys2Proof.Machine.execDecIdle level s
  | .decReserved code level => Sys2Proof.Machine.execDecReserved code level s
  | .decComplete => Sys2Proof.Machine.execDecComplete s
  -- the Orchestrator's phases (R77)
  | .orcIdle => Sys2Proof.Machine.execOrcIdle s
  | .orcWake lerr => Sys2Proof.Machine.execOrcWake lerr s
  | .orcStart lerr => Sys2Proof.Machine.execOrcStart lerr s
  | .orcWait => Sys2Proof.Machine.execOrcWait s
  -- the TICK arms (R78)
  | .tickCountdown => Sys2Proof.Machine.execTickCountdown s
  | .tickStart lerr => Sys2Proof.Machine.execTickStart lerr s
  | .tickBusy remZero => Sys2Proof.Machine.execTickBusy remZero s
  | .tickStopped remZero => Sys2Proof.Machine.execTickStopped remZero s
  | .tickReserved remZero => Sys2Proof.Machine.execTickReserved remZero s
  -- the internal operations
  | .step w => Sys2Proof.Machine.execStep w s
  | .orcEval lerr => Sys2Proof.Machine.execOrcEval lerr s
  | .arm => Sys2Proof.Machine.execArm s
  | .txnStart lerr => Sys2Proof.Machine.execTxnStart lerr s
  | .txnComplete => Sys2Proof.Machine.execTxnComplete s
  | .txnTimeout => Sys2Proof.Machine.execTxnTimeout s
  | .txnLineError => Sys2Proof.Machine.execTxnLineError s
  | .lineOp op lerr release => Sys2Proof.Machine.execLineOp op lerr release s
  | .validate => Sys2Proof.Machine.execValidate s
  | .txnEnd outcome => Sys2Proof.Machine.execTxnEnd outcome s

end Sys2Proof.Machine
end

