-- ==== Sys2Proof/Machine/Fetch.lean ====
section
/-! DEFINITION. Where a stimulus comes from. The block has no program (20_memory.md R61): its next instruction is the next
word that the environment delivers, the head of `State.stimuli` (log entry 4). And where the host's `withFetchWord` puts a
word or an internal key, so that the next step performs it. -/

namespace Sys2Proof.Machine

/-- The next stimulus word, and the state with it taken from those delivered (R57: in the order they arrive). -/
def fetchStimulus (s : State) : Option (StimWord × State) :=
  match s.stimuli with
  | [] => none
  | w :: ws => some (w, { s with stimuli := ws })

/-- Deliver `w` as the next stimulus. -/
def placeStim (w : StimWord) (s : State) : State := { s with stimuli := w :: s.stimuli }

/-- Set the control point so that the next step performs the decoder row of `key` (R76): `dec_state` = `key[3:1]`, and a TRANS
with level `key[0]` and timestamp 0. Row 8 reads `ts_high` and `frame`, which get the value 0 where they hold none. -/
def placeDecKey (key : BitVec 4) (s : State) : State :=
  placeStim (stimWord 1 false (key.getLsbD 0) 0)
    { s with
      decState := DecState.ofCode (key.extractLsb' 1 3)
      tsHigh := if key = 8 then some (s.tsHigh.getD 0) else s.tsHigh
      frame := if key = 8 then some (s.frame.getD 0) else s.frame }

/-- Set the control point so that the next step performs the TICK arm of `key` (R78): `sch_state` = `key[2:1]`, `remaining` zero
or not as `key[0]` says, and a TICK. -/
def placeTickKey (key : BitVec 3) (s : State) : State :=
  placeStim (stimWord 3 false false 0)
    { s with
      schState := SchState.ofCode (key.extractLsb' 1 2)
      remaining := if key.getLsbD 0 then 0 else if s.remaining = 0 then 1 else s.remaining }

/-- Set the control point so that the next step's settle performs the Orchestrator's arm of `key` (R77): `orc_phase` = `key`,
and a TIME that leaves `now` as it is. The timed phases read `phase_t0`, which gets `now` where it holds no value. -/
def placeOrcKey (key : BitVec 2) (s : State) : State :=
  placeStim (stimWord 2 false false s.now)
    { s with orcPhase := OrcPhase.ofCode key, phaseT0 := some (s.phaseT0.getD s.now) }

/-- The host's word or key of `nbits` bits, as `Sys2Proof.decodeTableWord` reads it. -/
def placeTableWord (nbits w : Nat) (s : State) : State :=
  match nbits with
  | 8 => placeDecKey (BitVec.ofNat 4 w) s
  | 4 => placeDecKey (BitVec.ofNat 4 w) s
  | 3 => placeTickKey (BitVec.ofNat 3 w) s
  | 2 => placeOrcKey (BitVec.ofNat 2 w) s
  | _ => placeStim (BitVec.ofNat 40 w) s

end Sys2Proof.Machine
end

