-- ==== Sys2Proof/Machine/Step.lean ====
section
/-! DEFINITION. `step`: take the next stimulus word, decode it, perform it (00_scope.md R3, R14). -/

namespace Sys2Proof.Machine

/-- One step: the next delivered word is taken and the instruction it decodes to performed. With no word delivered there is no
step to take. -/
def step (s : State) : Host.Outcome State Fault Refusal :=
  match fetchStimulus s with
  | none => .refused .noStimulus
  | some (w, t) => exec (decode (.stim w)) t

/-- The state in which the next step fetches and performs the word or key `w` of `nbits` bits (log entries 4 and 5). -/
def State.withFetchWord (s : State) (nbits w : Nat) : State := placeTableWord nbits w s

end Sys2Proof.Machine
end

