-- ==== Sys2Proof/Machine/Assembler.lean ====
section
/-! DEFINITION. The stimulus assembler (30_encoding.md R81 to R83): statements, pseudo-instructions and their expansions to
words, and the text they are written in. -/

namespace Sys2Proof.Machine

/-- A statement of a stimulus program: the five stimuli (R81) and the four pseudo-instructions (R83). Numbers are as written,
before R82's range check. -/
inductive Stmt where
  | trans (ts level : Nat)
  | time (t : Nat) (lerr : Bool)
  | tick (lerr : Bool)
  | stop
  | reset
  | adv (d : Nat) (lerr : Bool)
  | hipulse (s w : Nat)
  | sendframe (s b0 b1 b2 b3 b4 : Nat)
  | sendbits (s : Nat) (bits : List Nat)
  deriving DecidableEq, Repr

/-- `TRANS ts, level`; "An assembler rejects any other value; it never truncates" (R82). -/
def asmTrans (ts level : Nat) : Option StimWord :=
  if ts < 2 ^ 32 ∧ level ≤ 1 then some (stimWord 1 false (level == 1) (BitVec.ofNat 32 ts)) else none

/-- `TIME t` or `TIME t, LERR` (R81, R82). -/
def asmTime (t : Nat) (lerr : Bool) : Option StimWord :=
  if t < 2 ^ 32 then some (stimWord 2 lerr false (BitVec.ofNat 32 t)) else none

/-- `HIPULSE s, w`: `TRANS s, 1` then `TRANS s+w, 0` (R83). -/
def asmHipulse (s w : Nat) : Option (List StimWord) :=
  match asmTrans s 1, asmTrans (s + w) 0 with
  | some a, some b => some [a, b]
  | _, _ => none

/-- The bit part of SENDFRAME, and SENDBITS (R83): each bit a high pulse of 22 or 70 microseconds, 50 after `c`. -/
def asmBits (c : Nat) : List Nat → Option (List StimWord)
  | [] => some []
  | v :: vs =>
    if v ≤ 1 then
      match asmHipulse (c + 50) (if v = 0 then 22 else 70), asmBits (c + 50 + (if v = 0 then 22 else 70)) vs with
      | some ws, some rest => some (ws ++ rest)
      | _, _ => none
    else none

/-- The bits of a byte, most significant first (R52). -/
def byteBits (b : Nat) : List Nat := [b / 128 % 2, b / 64 % 2, b / 32 % 2, b / 16 % 2, b / 8 % 2, b / 4 % 2, b / 2 % 2, b % 2]

/-- `SENDFRAME s, b0, ..., b4` (R83): the response low, the response high, the first bit's leading low, then 40 pulses. -/
def asmFrame (s : Nat) (bytes : List Nat) : Option (List StimWord) :=
  if bytes.all (· < 256) then
    match asmTrans s 0, asmTrans (s + 80) 1, asmTrans (s + 160) 0, asmBits (s + 160) (bytes.flatMap byteBits) with
    | some a, some b, some c, some rest => some (a :: b :: c :: rest)
    | _, _, _, _ => none
  else none

/-- One statement with the assembler's `T` before it, giving its words and the `T` after it (R83). -/
def asmStmt (T : Nat) : Stmt → Option (List StimWord × Nat)
  | .trans ts level => (asmTrans ts level).map fun w => ([w], T)
  | .time t lerr => (asmTime t lerr).map fun w => ([w], t)
  | .tick lerr => some ([stimWord 3 lerr false 0], T)
  | .stop => some ([stimWord 4 false false 0], T)
  | .reset => some ([stimWord 5 false false 0], 0)
  | .adv d lerr => (asmTime (T + d) lerr).map fun w => ([w], T + d)
  | .hipulse s w => (asmHipulse s w).map fun ws => (ws, T)
  | .sendframe s b0 b1 b2 b3 b4 => (asmFrame s [b0, b1, b2, b3, b4]).map fun ws => (ws, T)
  | .sendbits s bits => (asmBits s bits).map fun ws => (ws, T)

/-- A program's words, from a given `T`. -/
def assembleFrom (T : Nat) : List Stmt → Option (List StimWord)
  | [] => some []
  | i :: is =>
    match asmStmt T i with
    | none => none
    | some (ws, T') => (assembleFrom T' is).map fun rest => ws ++ rest

/-- A program's words. `T` starts at 0, as a run starts "as if RESET had just been taken" (R83, R190; log entry 10). -/
def assemble (is : List Stmt) : Option (List StimWord) := assembleFrom 0 is

/-! ## The text (R81, R82), as a list of characters -/

/-- The value of a decimal digit. -/
def digitVal (c : Char) : Option Nat :=
  if '0' ≤ c ∧ c ≤ '9' then some (c.toNat - 48) else none

/-- The value of a hex digit, of either case (DESIGN CHOICE, log entry 10). -/
def hexVal (c : Char) : Option Nat :=
  if '0' ≤ c ∧ c ≤ '9' then some (c.toNat - 48)
  else if 'a' ≤ c ∧ c ≤ 'f' then some (c.toNat - 87)
  else if 'A' ≤ c ∧ c ≤ 'F' then some (c.toNat - 55)
  else none

/-- The number that digits write in a base, after `acc`. -/
def digitsVal (base : Nat) (digit : Char → Option Nat) (acc : Nat) : List Char → Option Nat
  | [] => some acc
  | c :: cs =>
    match digit c with
    | none => none
    | some d => digitsVal base digit (acc * base + d) cs

/-- A number, decimal or hex with the `0x` prefix (R82). -/
def parseNumber (cs : List Char) : Option Nat :=
  match cs with
  | [] => none
  | ['0', 'x'] => none
  | '0' :: 'x' :: ds => digitsVal 16 hexVal 0 ds
  | _ => digitsVal 10 digitVal 0 cs

/-- White space within a line (DESIGN CHOICE, log entry 10). -/
def isBlank (c : Char) : Bool := c == ' ' || c == '\t' || c == '\r'

/-- A piece of text without the white space around it (DESIGN CHOICE, log entry 10: R81 and R82 do not say where it may stand). -/
def trimChars (cs : List Char) : List Char := ((cs.dropWhile isBlank).reverse.dropWhile isBlank).reverse

/-- Cut at every `sep`: always at least one piece. -/
def cutAt (sep : Char) : List Char → List (List Char)
  | [] => [[]]
  | c :: cs =>
    if c = sep then [] :: cutAt sep cs
    else
      match cutAt sep cs with
      | [] => [[c]]
      | p :: ps => (c :: p) :: ps

/-- The keyword `LERR`. -/
def lerrWord : List Char := ['L', 'E', 'R', 'R']

/-- Every operand as a number. -/
def parseNumbers : List (List Char) → Option (List Nat)
  | [] => some []
  | p :: ps =>
    match parseNumber p, parseNumbers ps with
    | some n, some ns => some (n :: ns)
    | _, _ => none

/-- A mnemonic with its operands as a statement (R81, R83). -/
def parseStmt (mnemonic : List Char) (ops : List (List Char)) : Option Stmt :=
  if mnemonic = ['T', 'R', 'A', 'N', 'S'] then
    match parseNumbers ops with
    | some [ts, level] => some (.trans ts level)
    | _ => none
  else if mnemonic = ['T', 'I', 'M', 'E'] then
    match ops with
    | [t] => (parseNumber t).map fun t => .time t false
    | [t, k] => if k = lerrWord then (parseNumber t).map fun t => .time t true else none
    | _ => none
  else if mnemonic = ['T', 'I', 'C', 'K'] then
    match ops with
    | [] => some (.tick false)
    | [k] => if k = lerrWord then some (.tick true) else none
    | _ => none
  else if mnemonic = ['S', 'T', 'O', 'P'] then if ops = [] then some .stop else none
  else if mnemonic = ['R', 'E', 'S', 'E', 'T'] then if ops = [] then some .reset else none
  else if mnemonic = ['A', 'D', 'V'] then
    match ops with
    | [d] => (parseNumber d).map fun d => .adv d false
    | [d, k] => if k = lerrWord then (parseNumber d).map fun d => .adv d true else none
    | _ => none
  else if mnemonic = ['H', 'I', 'P', 'U', 'L', 'S', 'E'] then
    match parseNumbers ops with
    | some [s, w] => some (.hipulse s w)
    | _ => none
  else if mnemonic = ['S', 'E', 'N', 'D', 'F', 'R', 'A', 'M', 'E'] then
    match parseNumbers ops with
    | some [s, b0, b1, b2, b3, b4] => some (.sendframe s b0 b1 b2 b3 b4)
    | _ => none
  else if mnemonic = ['S', 'E', 'N', 'D', 'B', 'I', 'T', 'S'] then
    match parseNumbers ops with
    | some (s :: n :: bits) => if bits.length = n then some (.sendbits s bits) else none
    | _ => none
  else none

/-- One line: one statement, or nothing; a comment runs from `;` to the end of the line (R81). DESIGN CHOICE (log entry 10): R81
says one statement per line and is silent on a blank line and on a line with a comment alone; both are taken as no statement. R81
and R82 do not say whether white space may stand at the start and end of a line, before a comment and around a comma; it may,
and it is ignored there, while at least one white space character parts a mnemonic from its operands. -/
def parseLine (line : List Char) : Option (List Stmt) :=
  let code := trimChars (line.takeWhile (· != ';'))
  if code = [] then some []
  else
    let mnemonic := code.takeWhile fun c => !isBlank c
    let rest := trimChars (code.dropWhile fun c => !isBlank c)
    let ops := if rest = [] then [] else (cutAt ',' rest).map trimChars
    (parseStmt mnemonic ops).map fun i => [i]

/-- Every line of a program. -/
def parseLines : List (List Char) → Option (List Stmt)
  | [] => some []
  | l :: ls =>
    match parseLine l, parseLines ls with
    | some a, some b => some (a ++ b)
    | _, _ => none

/-- The words of a program text (R81 to R83); none where the assembler rejects it. -/
def assembleText (text : List Char) : Option (List StimWord) :=
  match parseLines (cutAt '\n' text) with
  | some is => assemble is
  | none => none

end Sys2Proof.Machine
end

