-- ==== Sys2Proof/Machine/Run.lean ====
section
/-! DEFINITION. A run past a fault or a refusal, with the marks that the model keeps (00_scope.md R14), and what an observer
reads between steps (10_state.md R41, R46, R48; 20_memory.md R60). -/

namespace Sys2Proof.Machine

/-- The next stimulus is dropped: the step it asked for is not taken. -/
def dropStimulus (s : State) : State := { s with stimuli := s.stimuli.tail }

/-- The state a model goes on from, whatever `step` answers (R14). After a fault "the state is kept, with the fault mark set"
(R104); after a refused word nothing changes but the refusal mark (R74); with no stimulus delivered nothing changes. -/
def advance (s : State) : State :=
  match step s with
  | .next t => t
  | .fault f => markFault f (dropStimulus s)
  | .refused .noStimulus => s
  | .refused (.illFormedWord _) => markRefusal (dropStimulus s)
  | .refused _ => s

/-- The step in R21's own form, on the block's state alone: the configuration is "a parameter of the step, not state", and the
stimulus word is the step's operand (R150). -/
def blockStep (cfg : Config) (w : StimWord) (b : Block) : Host.Outcome Block Fault Refusal :=
  match exec (.step w) { toBlock := b, cfg := cfg, stimuli := [] } with
  | .next t => .next t.toBlock
  | .fault f => .fault f
  | .refused x => .refused x

/-- The block's outputs (R46). -/
structure Outputs where
  lineMode : LineMode
  log : List LogEntry
  rdT : Option Tenths
  rdRh : Option Tenths
  attempts : Count
  accepted : Count
  dataValid : Bool
  lastStatus : Status
  schState : SchState
  deriving DecidableEq, Repr

/-- What an external reader sees between steps (R46, R60). While `accepted` = 0 a read of the Reading gives no value, the
source's "NaN" (R48). -/
def observe (s : State) : Outputs where
  lineMode := s.lineMode
  log := s.log
  rdT := if s.accepted = 0 then none else s.rdT
  rdRh := if s.accepted = 0 then none else s.rdRh
  attempts := s.attempts
  accepted := s.accepted
  dataValid := dataValid s.accepted
  lastStatus := s.lastStatus
  schState := s.schState

/-- `n` steps, with the line-operation logs of the steps taken concatenated (R46: "Each step starts a fresh list; a model's
observation concatenates the lists"). A fault, a refusal or a missing stimulus takes no step and adds no entry. -/
def runSteps (n : Nat) (s : State) : State × List LogEntry :=
  match n with
  | 0 => (s, [])
  | n + 1 =>
    match step s with
    | .next t => ((runSteps n t).1, t.log ++ (runSteps n t).2)
    | .fault _ => runSteps n (advance s)
    | .refused _ => runSteps n (advance s)

/-- Deliver a sequence of stimulus words, in order, behind those already delivered (R57). -/
def deliver (ws : List StimWord) (s : State) : State := { s with stimuli := s.stimuli ++ ws }

/-- A run of the model on a sequence of words, from a state with none pending: the last state and the observed log. -/
def runWords (ws : List StimWord) (s : State) : State × List LogEntry := runSteps ws.length (deliver ws s)

end Sys2Proof.Machine
end

