-- ==== Sys2Proof/Safety.lean ====
section
/-! DEFINITION. What counts as a sound state and a safe run, in the terms the statements use: 10_state.md R45's invariants,
which registers hold a value when (R33, R48), no reserved code (R69), and the end of a run (70_reset_and_hazards.md R205). -/

namespace Sys2Proof.Machine

/-- No register holds a reserved code (R69). -/
def State.Legal (s : State) : Prop := reservedFound s = none

/-- Every register that a rule may read next holds a value, and those that R33 and R48 say hold none hold none. -/
structure State.ValuesHeld (s : State) : Prop where
  /-- The frame is cleared by arm before a bit is stored in it or it is handed over (R48). -/
  frame_held : s.decState ≠ .idle ∨ s.done = true → s.frame.isSome = true
  /-- `ts_high` is written before it is read (R48). -/
  tsHigh_held : s.decState = .awaitingBitFalling → s.tsHigh.isSome = true
  /-- `phase_t0` is written on entry to each timed phase (R48). -/
  phaseT0_held : s.orcPhase ≠ .idle → s.phaseT0.isSome = true
  /-- `prev_t` and `prev_rh` hold a value exactly while `prev_valid` = 1 (R33). -/
  prev_held : (s.prevT.isSome = true ↔ s.prevValid = true) ∧ (s.prevRh.isSome = true ↔ s.prevValid = true)
  /-- `rd_t` and `rd_rh` hold a value exactly while `accepted` ≥ 1 (R46, R48). -/
  reading_held : (s.rdT.isSome = true ↔ 1 ≤ s.accepted.toNat) ∧ (s.rdRh.isSome = true ↔ 1 ≤ s.accepted.toNat)

/-- The seven invariants of R45, in its order. -/
structure State.R45 (s : State) : Prop where
  cursor_legal : s.decState = .awaitingBitHigh ∨ s.decState = .awaitingBitFalling → s.byteIdx.toNat ≤ 4
  done_idle : s.done = true → s.decState = .idle ∧ s.byteIdx = 5
  busy_iff : s.orcPhase ≠ .idle ↔ s.schState = .busy
  line_by_phase :
    (s.orcPhase = .idle ∨ s.orcPhase = .wait → s.lineMode = .read) ∧
      (s.orcPhase = .wake → s.lineMode = .high) ∧ (s.orcPhase = .start → s.lineMode = .low)
  baseline_iff : s.prevValid = true ↔ 1 ≤ s.accepted.toNat
  accepted_le : s.accepted.toNat ≤ s.attempts.toNat
  stopped_requested : s.schState = .stopped → s.stopReq = true

/-- What makes R45's sixth invariant inductive: the attempt of the transaction in flight is already counted (R111), or the
counter has saturated (R34). -/
def State.AttemptCounted (s : State) : Prop :=
  s.orcPhase ≠ .idle → s.accepted.toNat < s.attempts.toNat ∨ s.attempts.toNat = 2 ^ 32 - 1

/-- The machine's invariant. -/
structure State.Inv (s : State) : Prop where
  legal : s.Legal
  values : s.ValuesHeld
  r45 : s.R45
  counted : s.AttemptCounted

/-- A run has ended in `s` (R205): the scheduler is stopped and no fault is recorded. -/
def State.ended (s : State) : Bool := s.schState == .stopped && s.faultMark.isNone

/-- The next state, where there is one. -/
def nextState (r : Result) : Option State :=
  match r with
  | .next s => some s
  | .fault _ => none
  | .refused _ => none

/-- The fault, where there is one. -/
def faultOf (r : Result) : Option Fault :=
  match r with
  | .next _ => none
  | .fault f => some f
  | .refused _ => none

/-- The refusal, where there is one. -/
def refusalOf (r : Result) : Option Refusal :=
  match r with
  | .next _ => none
  | .fault _ => none
  | .refused x => some x

/-- The stimuli after whose effect the Orchestrator is evaluated: all but RESET (R112, R150). -/
def settles : Instr → Bool
  | .trans _ _ | .time _ _ | .tick _ | .stop => true
  | .reset | .refused _ => false
  | .decAwaitLowL0 | .decAwaitLowL1 | .decAwaitHighL0 | .decAwaitHighL1 | .decAwaitBitLowL0 | .decAwaitBitLowL1 => false
  | .decAwaitBitHighL0 | .decAwaitBitHighL1 _ | .decAwaitBitFallL0 _ | .decAwaitBitFallL1 | .decIdle _ => false
  | .decReserved _ _ | .decComplete | .orcIdle | .orcWake _ | .orcStart _ | .orcWait => false
  | .tickCountdown | .tickStart _ | .tickBusy _ | .tickStopped _ | .tickReserved _ | .step _ | .orcEval _ | .arm => false
  | .txnStart _ | .txnComplete | .txnTimeout | .txnLineError | .lineOp _ _ _ | .validate | .txnEnd _ => false

/-- The rows that the Edge Decoder performs on a transition (R76). -/
def decoderRow : Instr → Bool
  | .decAwaitLowL0 | .decAwaitLowL1 | .decAwaitHighL0 | .decAwaitHighL1 | .decAwaitBitLowL0 | .decAwaitBitLowL1 => true
  | .decAwaitBitHighL0 | .decAwaitBitHighL1 _ | .decAwaitBitFallL0 _ | .decAwaitBitFallL1 | .decIdle _ => true
  | .decReserved _ _ | .decComplete => true
  | .trans _ _ | .time _ _ | .tick _ | .stop | .reset | .refused _ => false
  | .orcIdle | .orcWake _ | .orcStart _ | .orcWait => false
  | .tickCountdown | .tickStart _ | .tickBusy _ | .tickStopped _ | .tickReserved _ | .step _ | .orcEval _ | .arm => false
  | .txnStart _ | .txnComplete | .txnTimeout | .txnLineError | .lineOp _ _ _ | .validate | .txnEnd _ => false

/-- `t` differs from `s` at most in what the notification context writes: `dec_state`, the cursor, `frame`, `ts_high` and
`done` (R49). -/
def DecoderOnly (s t : State) : Prop :=
  t = { s with decState := t.decState, byteIdx := t.byteIdx, bitIdx := t.bitIdx, frame := t.frame, tsHigh := t.tsHigh,
               done := t.done }

/-- The cursor's position among the frame's 40 bits, in the order they are sent: `8 * byte_idx + (7 - bit_idx)` (R52, R106). -/
def cursorPos (s : State) : Nat := 8 * s.byteIdx.toNat + (7 - s.bitIdx.toNat)

/-- States reached from `s` by steps (R57). -/
inductive Reaches (s : State) : State → Prop where
  | refl : Reaches s s
  | step {t u : State} : Reaches s t → Machine.step t = .next u → Reaches s u

end Sys2Proof.Machine
end

