-- ==== Sys2Proof/Certificates/Slice0/Obligations.lean ====
section
/-! DEFINITION. The statements for the provers, file by file of the spec. OBLIGATIONS.json lists them with the rule each one
formalises. A state equation `… = .next { s with … }` is a result, a completion and a frame at once: every register it does
not name, every byte of the frame and the line-operation log among them, keeps its value. -/

open Sys2Proof Sys2Proof.Machine

/-! ## Encoding (30_encoding.md) -/

/-- Decode and encode agree: every well-formed row that has a word or a key decodes from it, with every operand at every
value (R72 to R78). -/
def Obligations.DecodeEncodeAgree : Prop :=
  ∀ (i : Instr) (c : Code), i.WellFormed = true → encode i = some c → decode c = i

/-- The other direction: every one of the 2^40 words decodes to a well-formed stimulus or REFUSED whose encoding is that word, and
every internal key selects a well-formed row that has that key. No bit is dropped (R72, R74, R76 to R79). -/
def Obligations.EveryCodeEncodesBack : Prop :=
  (∀ w : StimWord, (decodeStim w).WellFormed = true ∧ encodeStim (decodeStim w) = some w) ∧
  (∀ key : BitVec 4, (decodeDec key 0 false).WellFormed = true ∧ encode (decodeDec key 0 false) = some (.dec key 0 false)) ∧
  (∀ key : BitVec 2, (decodeOrc key false).WellFormed = true ∧ encode (decodeOrc key false) = some (.orc key false)) ∧
  (∀ key : BitVec 3, (decodeTick key false).WellFormed = true ∧ encode (decodeTick key false) = some (.tick key false))

/-- R74: a word that meets one of the rule's conditions decodes to REFUSED and is refused by STEP and by REFUSED; a word that
meets none is taken. The state the model goes on from keeps every register. That this state has the refused word off the
queue and the refusal mark set by `advance` is the model's choice (log entries 2, 4 and 11). -/
def Obligations.RefusedExactlyIllFormed : Prop :=
  (∀ (w : StimWord), decodeStim w = .refused w ↔ spellsNothing w = true) ∧
  (∀ (w : StimWord) (s : State), spellsNothing w = true →
    (∃ why, exec (.step w) s = .refused (.illFormedWord why)) ∧ ∃ why, exec (.refused w) s = .refused (.illFormedWord why)) ∧
  (∀ (w : StimWord) (ws : List StimWord) (s : State), s.stimuli = w :: ws → spellsNothing w = true →
    (∃ why, step s = .refused (.illFormedWord why)) ∧ advance s = { s with stimuli := ws, refusalMark := true })

/-- The stimulus words of R84's table decode to the statements beside them. -/
def Obligations.ExampleWordsDecode : Prop :=
  decodeStim 0x1000000B0E = .trans 2830 false ∧
  decodeStim 0x1100000B5E = .trans 2910 true ∧
  decodeStim 0x20000007D0 = .time 2000 false ∧
  decodeStim 0x22000007D0 = .time 2000 true ∧
  decodeStim 0x3000000000 = .tick false ∧
  decodeStim 0x3200000000 = .tick true ∧
  decodeStim 0x4000000000 = .stop ∧
  decodeStim 0x5000000000 = .reset ∧
  decodeStim 0x0000000000 = .refused 0x0000000000 ∧
  decodeStim 0x3000000001 = .refused 0x3000000001 ∧
  decodeStim 0x1200000000 = .refused 0x1200000000

/-- R83: SENDFRAME expands to 83 statements, whose timestamps end at `s + 160` plus 72 or 120 microseconds for each bit; R82: an
assembler rejects a timestamp outside 0..2^32 - 1 and a byte above 255 (the byte's range is the model's reading, log
entry 10). -/
def Obligations.SendFrameExpandsToEightyThree : Prop :=
  (∀ s b0 b1 b2 b3 b4 : Nat, b0 < 256 → b1 < 256 → b2 < 256 → b3 < 256 → b4 < 256 → s + 160 + 40 * 120 < 2 ^ 32 →
    ∃ ws, asmFrame s [b0, b1, b2, b3, b4] = some ws ∧ ws.length = 83) ∧
  (∀ (s : Nat) (bytes : List Nat), 2 ^ 32 ≤ s → asmFrame s bytes = none) ∧
  (∀ (s : Nat) (bytes : List Nat), (∃ b ∈ bytes, 256 ≤ b) → asmFrame s bytes = none)

/-! ## The step and its parts (43_scheduler.md R150) -/

/-- A step runs the decoded instruction: the first delivered word is taken off, and the step is `exec` of the instruction it
decodes to, as is STEP of that word (R150); with no word delivered no step is taken (the model's own queue, log entry 4). -/
def Obligations.StepRunsDecodedWord : Prop :=
  (∀ (s : State) (w : StimWord) (ws : List StimWord), s.stimuli = w :: ws →
    step s = exec (decodeStim w) { s with stimuli := ws }) ∧
  (∀ (w : StimWord) (s : State), exec (.step w) s = exec (decodeStim w) s) ∧
  (∀ s : State, s.stimuli = [] → step s = .refused .noStimulus)

/-- R91, R76: a TRANS on a state without reserved codes performs, on a fresh log, the row that its key `{dec_state, level}`
selects, and then ORC_EVAL with `lerr` = 0. -/
def Obligations.TransRunsItsKeysRowThenSettles : Prop :=
  ∀ (s : State) (ts : Time) (level : Bool), s.Legal →
    exec (.trans ts level) s =
      andThen (exec (decodeDec (decKey s.decState level) ts false) { s with log := [] }) (exec (.orcEval false))

/-- R78: a TICK on a state without reserved codes performs, on a fresh log, the arm that `sch_state` and `remaining` = 0 select,
and then ORC_EVAL with the word's `lerr`. -/
def Obligations.TickRunsItsKeysArmThenSettles : Prop :=
  ∀ (s : State) (lerr : Bool), s.Legal →
    exec (.tick lerr) s =
      andThen (exec (decodeTick (tickKey s.schState (s.remaining == 0)) lerr) { s with log := [] }) (exec (.orcEval lerr))

/-- R112, R77: ORC_EVAL performs the arm that `orc_phase` selects. -/
def Obligations.OrcEvalRunsItsPhasesArm : Prop :=
  ∀ (s : State) (lerr : Bool), exec (.orcEval lerr) s = exec (decodeOrc s.orcPhase.code lerr) s

/-- No operation writes the configuration (R9: "It does not change while the block runs"), a mark, or the stimuli still to come.
That RESET keeps the configuration and the queue is the model's reading (log entry 12), that the queue and the mark fields
are outside every operation the model's choice (log entries 2 and 4). -/
def Obligations.ConfigurationNeverChanges : Prop :=
  ∀ (i : Instr) (s t : State), exec i s = .next t →
    t.cfg = s.cfg ∧ t.faultMark = s.faultMark ∧ t.refusalMark = s.refusalMark ∧ t.stimuli = s.stimuli

/-! ## Edge Decoder (40_decoder.md) -/

/-- R92, R94, R95, R96: the four rows that move the decoder before a bit is measured; R99: the completion. -/
def Obligations.DecoderAdvanceRows : Prop :=
  ∀ s : State,
    exec .decAwaitLowL0 s = .next { s with decState := .awaitingHigh } ∧
    exec .decAwaitHighL1 s = .next { s with decState := .awaitingBitLow } ∧
    exec .decAwaitBitLowL0 s =
      .next { s with byteIdx := 0, bitIdx := 7, frame := some 0, decState := .awaitingBitHigh } ∧
    (∀ ts : Time, exec (.decAwaitBitHighL1 ts) s = .next { s with tsHigh := some ts, decState := .awaitingBitFalling }) ∧
    exec .decComplete s = .next { s with decState := .idle, done := true }

/-- R93, R97, R100 to R103: the rows whose level the state does not wait for change nothing. -/
def Obligations.DecoderIgnoreRows : Prop :=
  ∀ s : State,
    exec .decAwaitLowL1 s = .next s ∧ exec .decAwaitHighL0 s = .next s ∧ exec .decAwaitBitLowL1 s = .next s ∧
    exec .decAwaitBitHighL0 s = .next s ∧ exec .decAwaitBitFallL1 s = .next s ∧
    ∀ level : Bool, exec (.decIdle level) s = .next s

/-- R98, R99: a falling edge with the cursor in the frame completes its row. The cursor's bit becomes 1 if the pulse was longer
than `T_BIT_US` and is left alone if not, every other bit keeps its value, the cursor advances, and the 40th bit completes
the frame. -/
def Obligations.FallingEdgeStoresBitAndAdvances : Prop :=
  ∀ (s : State) (ts t0 : Time) (F : Frame), s.tsHigh = some t0 → s.frame = some F → s.byteIdx.toNat ≤ 4 →
    ∃ (F' : Frame) (t : State), exec (.decAwaitBitFallL0 ts) s = .next t ∧
      (∀ n < 40, F'.getLsbD n =
        (F.getLsbD n || (decide (n = 8 * (4 - s.byteIdx.toNat) + s.bitIdx.toNat) && decide ((ts - t0).toNat > s.cfg.tBitUs)))) ∧
      (s.bitIdx ≠ 0 → t = { s with frame := some F', bitIdx := s.bitIdx - 1, decState := .awaitingBitHigh }) ∧
      (s.bitIdx = 0 → s.byteIdx ≠ 4 →
        t = { s with frame := some F', byteIdx := s.byteIdx + 1, bitIdx := 7, decState := .awaitingBitHigh }) ∧
      (s.bitIdx = 0 → s.byteIdx = 4 →
        t = { s with frame := some F', byteIdx := 5, bitIdx := 7, decState := .idle, done := true })

/-- R105: the threshold test is strictly greater-than on the 32-bit modular difference; and its table for `T_BIT_US` = 40,
wherever on the time base the pulse starts. -/
def Obligations.ThresholdTable : Prop :=
  ∀ (cfg : Config) (t0 : Time),
    (∀ ts : Time, longPulse cfg ts t0 = true ↔ cfg.tBitUs < (ts.toNat + 2 ^ 32 - t0.toNat) % 2 ^ 32) ∧
    (cfg.tBitUs = 40 →
      longPulse cfg t0 t0 = false ∧ longPulse cfg (t0 + 22) t0 = false ∧ longPulse cfg (t0 + 40) t0 = false ∧
      longPulse cfg (t0 + 41) t0 = true ∧ longPulse cfg (t0 + 70) t0 = true ∧ longPulse cfg (t0 + 0xFFFFFFFF) t0 = true)

/-- R90: ARM from any state, and again. `ts_high` keeps its value. -/
def Obligations.ArmResetsTheDecoder : Prop :=
  ∀ s : State,
    exec .arm s =
      .next { s with decState := .awaitingLow, byteIdx := 0, bitIdx := 7, frame := some 0, done := false } ∧
    ∀ t, exec .arm s = .next t → exec .arm t = .next t

/-- R104: a TRANS that finds a reserved `dec_state` code faults, and the state is kept, with the fault mark set; the row
DEC_RESERVED is that fault. That `advance` sets the mark, and takes the faulting stimulus off the queue, is the model's choice
(log entries 2, 4 and 11). -/
def Obligations.ReservedDecoderCodeFaults : Prop :=
  (∀ (code : BitVec 3) (level : Bool) (s : State), exec (.decReserved code level) s = .fault .reservedDecState) ∧
  (∀ (ts : Time) (level : Bool) (s : State), s.decState = .reserved6 ∨ s.decState = .reserved7 →
    exec (.trans ts level) s = .fault .reservedDecState) ∧
  (∀ (w : StimWord) (ws : List StimWord) (ts : Time) (level : Bool) (s : State),
    s.stimuli = w :: ws → decodeStim w = .trans ts level → s.decState = .reserved6 ∨ s.decState = .reserved7 →
    s.faultMark = none → advance s = { s with stimuli := ws, faultMark := some .reservedDecState })

/-- R48: a read of a register that holds no value is a fault that names it, in each operation that reads one. The last clause
is the model's reading of R98, R54 and R48 (log entry 9): a bit's store is a write and no read, so into a frame that holds no
value a long pulse does what it does into a frame of some value, of which nothing is said, and a short one leaves the frame
without a value. -/
def Obligations.ReadOfNoValueFaults : Prop :=
  ∀ s : State,
    (s.tsHigh = none → ∀ ts, exec (.decAwaitBitFallL0 ts) s = .fault (.noValue .tsHigh)) ∧
    (s.phaseT0 = none → ∀ lerr, exec (.orcWake lerr) s = .fault (.noValue .phaseT0) ∧
      exec (.orcStart lerr) s = .fault (.noValue .phaseT0)) ∧
    (s.phaseT0 = none → s.done = false → exec .orcWait s = .fault (.noValue .phaseT0)) ∧
    (s.frame = none → exec .txnComplete s = .fault (.noValue .frame)) ∧
    (s.rxFrame = none → exec .validate s = .fault (.noValue .rxFrame)) ∧
    (∀ F, s.rxFrame = some F → checksumOk F = true → s.prevValid = true →
      (s.prevT = none → exec .validate s = .fault (.noValue .prevT)) ∧
      (s.prevT.isSome = true → s.prevRh = none → exec .validate s = .fault (.noValue .prevRh))) ∧
    (∀ ts t0, s.tsHigh = some t0 → s.frame = none → s.byteIdx.toNat ≤ 4 →
      (s.cfg.tBitUs < (ts - t0).toNat → ∃ (F : Frame) (t : State), exec (.decAwaitBitFallL0 ts) s = .next t ∧
        exec (.decAwaitBitFallL0 ts) { s with frame := some F } = .next t) ∧
      ((ts - t0).toNat ≤ s.cfg.tBitUs → ∃ t : State, exec (.decAwaitBitFallL0 ts) { s with frame := some 0 } = .next t ∧
        exec (.decAwaitBitFallL0 ts) s = .next { t with frame := none }))

/-- R106: in a TRANS step that does not arm, the cursor's position rises by one with each falling edge taken, goes to 0 with the
first bit's leading low, and moves with no other event. A TRANS arms only by ending the start hold (R115), so the steps are
those outside `O_START` and those in it with the hold not over (R108). -/
def Obligations.CursorMovesOncePerFallingEdge : Prop :=
  ∀ (s t : State) (ts : Time) (level : Bool), exec (.trans ts level) s = .next t →
    (s.orcPhase = .start → ∃ t0, s.phaseT0 = some t0 ∧ (s.now - t0).toNat < s.cfg.tStartUs) →
    cursorPos t =
      if level = false ∧ s.decState = .awaitingBitFalling then cursorPos s + 1
      else if level = false ∧ s.decState = .awaitingBitLow then 0
      else cursorPos s

/-- R49: a row of the Edge Decoder writes only the notification context's registers. -/
def Obligations.DecoderRowsWriteOnlyDecoderState : Prop :=
  ∀ (i : Instr) (s t : State), decoderRow i = true → exec i s = .next t → DecoderOnly s t

/-- R49, R91, R114: while no transaction is in flight a TRANS completes on every sound state, and writes only the notification
context's registers (and a fresh, empty log). -/
def Obligations.IdleTransWritesOnlyDecoderState : Prop :=
  ∀ (s : State) (ts : Time) (level : Bool), s.Inv → s.orcPhase = .idle →
    ∃ t, exec (.trans ts level) s = .next t ∧ t.log = [] ∧ DecoderOnly { s with log := [] } t

/-- The decoder reconstructs every frame (R92 to R99 together, R52, R83): from the armed state, with a threshold that tells the
fixture's 22 and 70 microsecond pulses apart, the 83 transitions of SENDFRAME complete a frame whose five bytes are those
sent. With a transaction in `O_WAIT` and its timeout not over (R116), the last of them hands the frame to `rx_frame` and ends
the transaction with one of the Validator's statuses (R117); with none in flight the frame stays where the decoder left it. -/
def Obligations.SentFrameIsReconstructed : Prop :=
  ∀ (s : State) (at0 b0 b1 b2 b3 b4 : Nat) (ws : List StimWord),
    b0 < 256 → b1 < 256 → b2 < 256 → b3 < 256 → b4 < 256 →
    asmFrame at0 [b0, b1, b2, b3, b4] = some ws → s.Inv → s.decState = .awaitingLow →
    (s.orcPhase = .idle ∨
      s.orcPhase = .wait ∧ ∃ t0, s.phaseT0 = some t0 ∧ (s.now - t0).toNat < s.cfg.tTimeoutUs) →
    22 ≤ s.cfg.tBitUs → s.cfg.tBitUs < 70 → s.stimuli = ws →
    ∃ (t : State) (F : Frame), core.run 83 s = .next t ∧ t.frame = some F ∧ t.decState = .idle ∧ t.done = true ∧
      frameByte F 0 = BitVec.ofNat 8 b0 ∧ frameByte F 1 = BitVec.ofNat 8 b1 ∧ frameByte F 2 = BitVec.ofNat 8 b2 ∧
      frameByte F 3 = BitVec.ofNat 8 b3 ∧ frameByte F 4 = BitVec.ofNat 8 b4 ∧ t.orcPhase = .idle ∧
      (s.orcPhase = .idle → t.rxFrame = s.rxFrame ∧ t.lastStatus = s.lastStatus) ∧
      (s.orcPhase = .wait → t.rxFrame = some F ∧
        (t.lastStatus = .checksum ∧ checksumOk F = false ∨
          checksumOk F = true ∧ (t.lastStatus = .plaus ∨ t.lastStatus = .acceptFirst ∨ t.lastStatus = .accept)))

/-! ## Transaction Orchestrator (41_orchestrator.md) -/

/-- R120: LINE_OP appends the operation with its result, which is err exactly for the step's first operation with `lerr` = 1
that is not R119's release, and changes nothing else. -/
def Obligations.LineOpLogsItsResult : Prop :=
  ∀ (s : State) (op : LineOp) (lerr release : Bool),
    ∃ r : LineResult, exec (.lineOp op lerr release) s = .next { s with log := s.log ++ [(op, r)] } ∧
      (r = .err ↔ lerr = true ∧ s.log = [] ∧ release = false)

/-- R111: TXN_START counts the attempt and drives the line high; a failed operation ends the transaction by R119. -/
def Obligations.TxnStartResult : Prop :=
  ∀ s : State, s.log = [] →
    exec (.txnStart false) s =
      .next { s with attempts := satInc s.attempts, log := [(.driveHigh, .ok)], lineMode := .high, orcPhase := .wake,
                     phaseT0 := some s.now } ∧
    ∃ t, exec (.txnStart true) s = .next t ∧
      exec .txnLineError { s with attempts := satInc s.attempts, log := [(.driveHigh, .err)] } = .next t

/-- R113: the wake hold ends exactly when `T_WAKE_US` has elapsed. -/
def Obligations.WakePhaseResult : Prop :=
  ∀ (s : State) (t0 : Time), s.phaseT0 = some t0 → s.log = [] →
    ((s.now - t0).toNat < s.cfg.tWakeUs → ∀ lerr, exec (.orcWake lerr) s = .next s) ∧
    (s.cfg.tWakeUs ≤ (s.now - t0).toNat →
      exec (.orcWake false) s =
        .next { s with log := [(.driveLow, .ok)], lineMode := .low, orcPhase := .start, phaseT0 := some s.now } ∧
      ∃ t, exec (.orcWake true) s = .next t ∧ exec .txnLineError { s with log := [(.driveLow, .err)] } = .next t)

/-- R115: the start hold ends exactly when `T_START_US` has elapsed, with release, read mode and ARM in one step. -/
def Obligations.StartPhaseResult : Prop :=
  ∀ (s : State) (t0 : Time), s.phaseT0 = some t0 → s.log = [] →
    ((s.now - t0).toNat < s.cfg.tStartUs → ∀ lerr, exec (.orcStart lerr) s = .next s) ∧
    (s.cfg.tStartUs ≤ (s.now - t0).toNat →
      exec (.orcStart false) s =
        .next { s with log := [(.driveHigh, .ok), (.readMode, .ok)], decState := .awaitingLow, byteIdx := 0, bitIdx := 7,
                       frame := some 0, done := false, lineMode := .read, orcPhase := .wait, phaseT0 := some s.now } ∧
      ∃ t, exec (.orcStart true) s = .next t ∧ exec .txnLineError { s with log := [(.driveHigh, .err)] } = .next t)

/-- R114: `O_IDLE` changes nothing, whatever `done` is. R116, R123: in `O_WAIT` completion is tested first, then the timeout, at
exactly `T_TIMEOUT_US`. -/
def Obligations.IdleAndWaitPhaseResult : Prop :=
  ∀ s : State,
    exec .orcIdle s = .next s ∧
    (s.done = true → s.frame.isSome = true → (s.prevValid = true → s.prevT.isSome = true ∧ s.prevRh.isSome = true) →
      ∃ t, exec .orcWait s = .next t ∧ exec .txnComplete s = .next t) ∧
    (∀ t0, s.done = false → s.phaseT0 = some t0 →
      (s.cfg.tTimeoutUs ≤ (s.now - t0).toNat → ∃ t, exec .orcWait s = .next t ∧ exec .txnTimeout s = .next t) ∧
      ((s.now - t0).toNat < s.cfg.tTimeoutUs → exec .orcWait s = .next s))

/-- R118: a timeout records itself and ends the transaction; the decoder and the line are left as they are. R119: a line error
releases the line, which never fails, records itself and ends the transaction. -/
def Obligations.TimeoutAndLineErrorResult : Prop :=
  ∀ s : State,
    exec .txnTimeout s =
      .next { s with lastStatus := .timeout, orcPhase := .idle, remaining := delay s.cfg .timeoutError,
                     schState := if s.stopReq = true then .stopped else .run } ∧
    exec .txnLineError s =
      .next { s with log := s.log ++ [(.readMode, .ok)], lineMode := .read, lastStatus := .line, orcPhase := .idle,
                     remaining := delay s.cfg .lineError, schState := if s.stopReq = true then .stopped else .run }

/-- R117: the frame is handed over by value, then VALIDATE and TXN_END run. It completes for every frame, with the baseline's
two values present where there is a baseline. -/
def Obligations.CompleteHandsFrameToValidator : Prop :=
  ∀ (s : State) (F : Frame), s.frame = some F →
    (s.prevValid = true → s.prevT.isSome = true ∧ s.prevRh.isSome = true) →
    ∃ (v t : State) (o : TxnOutcome), exec .validate { s with rxFrame := some F, orcPhase := .idle } = .next v ∧
      exec (.txnEnd o) v = .next t ∧ exec .txnComplete s = .next t ∧ t.frame = some F ∧ t.rxFrame = some F ∧
      t.orcPhase = .idle ∧ t.lineMode = s.lineMode ∧ t.done = s.done ∧
      (o = .checksumError ∧ v.lastStatus = .checksum ∨ o = .plausibilityError ∧ v.lastStatus = .plaus ∨
        o = .acceptedFirst ∧ v.lastStatus = .acceptFirst ∨ o = .accepted ∧ v.lastStatus = .accept)

/-- R113, R119, R175 in one TIME step: a wake hold that ends with a failing line operation leaves exactly this state. The decoder
is not armed, and the Reading, the baseline and the counters keep their values. -/
def Obligations.LineErrorEndsWakeStep : Prop :=
  ∀ (s : State) (t t0 : Time), s.Inv → s.orcPhase = .wake → s.phaseT0 = some t0 → s.cfg.tWakeUs ≤ (t - t0).toNat →
    exec (.time t true) s =
      .next { s with now := t, log := [(.driveLow, .err), (.readMode, .ok)], lineMode := .read, lastStatus := .line,
                     orcPhase := .idle, remaining := delay s.cfg .lineError,
                     schState := if s.stopReq = true then .stopped else .run }

/-- R116, R118, R123 in one TIME step: with no frame, the step in which `T_TIMEOUT_US` has elapsed since the arm ends the
transaction, and no earlier one does. -/
def Obligations.TimeoutEndsWaitStep : Prop :=
  ∀ (s : State) (t t0 : Time) (lerr : Bool), s.Inv → s.orcPhase = .wait → s.done = false → s.phaseT0 = some t0 →
    (s.cfg.tTimeoutUs ≤ (t - t0).toNat →
      exec (.time t lerr) s =
        .next { s with now := t, log := [], lastStatus := .timeout, orcPhase := .idle,
                       remaining := delay s.cfg .timeoutError,
                       schState := if s.stopReq = true then .stopped else .run }) ∧
    ((t - t0).toNat < s.cfg.tTimeoutUs → exec (.time t lerr) s = .next { s with now := t, log := [] })

/-- R112: a stimulus moves the Orchestrator at most one phase, and a phase is entered only from the one before it (`O_WAKE` from
`O_IDLE`, by a TICK; `O_START` from `O_WAKE`; `O_WAIT` from `O_START`) or left for `O_IDLE`. -/
def Obligations.OnePhasePerStep : Prop :=
  ∀ (i : Instr) (s t : State), settles i = true → s.Inv → exec i s = .next t → t.orcPhase ≠ s.orcPhase →
    t.orcPhase = .idle ∨
    (s.orcPhase = .idle ∧ t.orcPhase = .wake ∧ ∃ lerr, i = .tick lerr) ∨
    (s.orcPhase = .wake ∧ t.orcPhase = .start) ∨ (s.orcPhase = .start ∧ t.orcPhase = .wait)

/-- R122: the holds are lower bounds. A step from `O_WAKE` to `O_START` finds `T_WAKE_US` elapsed since the phase began, and one
from `O_START` to `O_WAIT` finds `T_START_US`. While a transaction is in flight (R37) the same bounds hold however the phase
is left, a LineError's way to `O_IDLE` among them. -/
def Obligations.HoldsAreLowerBounds : Prop :=
  ∀ (i : Instr) (s t : State) (t0 : Time), settles i = true → s.phaseT0 = some t0 → exec i s = .next t →
    (s.orcPhase = .wake → t.orcPhase = .start → s.cfg.tWakeUs ≤ (t.now - t0).toNat) ∧
    (s.orcPhase = .start → t.orcPhase = .wait → s.cfg.tStartUs ≤ (t.now - t0).toNat) ∧
    (s.schState = .busy →
      (s.orcPhase = .wake → t.orcPhase ≠ .wake → s.cfg.tWakeUs ≤ (t.now - t0).toNat) ∧
      (s.orcPhase = .start → t.orcPhase ≠ .start → s.cfg.tStartUs ≤ (t.now - t0).toNat))

/-- R121: `attempts` counts, saturating, exactly the TICKs that start a transaction; R34: the count is one more, or stays at
2^32 - 1. -/
def Obligations.AttemptsCountTransactions : Prop :=
  (∀ c : Count, (satInc c).toNat = min (c.toNat + 1) (2 ^ 32 - 1)) ∧
  ∀ (i : Instr) (s t : State), settles i = true → exec i s = .next t →
    t.attempts =
      if (∃ lerr, i = .tick lerr) ∧ s.schState = .run ∧ s.remaining = 0 then satInc s.attempts else s.attempts

/-- R107, R63: a frame is handed over only complete. `rx_frame` changes only in a step that leaves `O_WAIT` with the decoder
done, and then it is the decoder's frame. -/
def Obligations.OnlyCompleteFramesAreHandedOver : Prop :=
  ∀ (i : Instr) (s t : State), settles i = true → s.Inv → exec i s = .next t → t.rxFrame ≠ s.rxFrame →
    s.orcPhase = .wait ∧ t.orcPhase = .idle ∧ t.done = true ∧ t.decState = .idle ∧ t.byteIdx = 5 ∧ t.rxFrame = t.frame

/-- R80: in a step that issues no line operation, a TIME or TICK with `LERR` = 1 behaves exactly as the same word with
`LERR` = 0. -/
def Obligations.LineErrorDrawUnusedHasNoEffect : Prop :=
  (∀ (s u : State) (t : Time), exec (.time t false) s = .next u → u.log = [] → exec (.time t true) s = .next u) ∧
  (∀ s u : State, exec (.tick false) s = .next u → u.log = [] → exec (.tick true) s = .next u)

/-! ## Validator (42_validator.md) -/

/-- R131, R51: the checksum test on the frame's value, for every frame. -/
def Obligations.ChecksumIsByteSum : Prop :=
  ∀ F : Frame, checksumOk F = true ↔
    (F.toNat / 2 ^ 32 + F.toNat / 2 ^ 24 % 256 + F.toNat / 2 ^ 16 % 256 + F.toNat / 2 ^ 8 % 256) % 256 = F.toNat % 256

/-- R133, R134: the two fields, for every frame: humidity is the two's complement of `F[39:24]`, temperature the sign and
magnitude of `F[23:8]`, each in its range; R32, R140: a 16-bit register holds each of them exactly. -/
def Obligations.FieldsDecodeExactly : Prop :=
  ∀ F : Frame,
    humidity F = (if F.toNat / 2 ^ 39 = 1 then (F.toNat / 2 ^ 24 : Int) - 2 ^ 16 else (F.toNat / 2 ^ 24 : Int)) ∧
    -32768 ≤ humidity F ∧ humidity F ≤ 32767 ∧
    temperature F =
      (if F.toNat / 2 ^ 23 % 2 = 1 then -(F.toNat / 2 ^ 8 % 2 ^ 15 : Int) else (F.toNat / 2 ^ 8 % 2 ^ 15 : Int)) ∧
    -32767 ≤ temperature F ∧ temperature F ≤ 32767 ∧
    (toTenths (temperature F)).toInt = temperature F ∧ (toTenths (humidity F)).toInt = humidity F

/-- R132: a checksum mismatch writes only `last_status`. -/
def Obligations.ChecksumMismatchWritesOnlyStatus : Prop :=
  ∀ (s : State) (F : Frame), s.rxFrame = some F → checksumOk F = false →
    exec .validate s = .next { s with lastStatus := .checksum }

/-- R136 to R139: VALIDATE of a frame that passes the checksum. Without a baseline, or within the limits of the one there is, it
is accepted, first or not; past a limit it is rejected and becomes the baseline all the same. -/
def Obligations.ValidateChecksummedFrame : Prop :=
  ∀ (s : State) (F : Frame) (pt prh : Tenths), s.rxFrame = some F → checksumOk F = true → s.prevT = some pt →
    s.prevRh = some prh →
    (s.prevValid = true →
      ((temperature F - pt.toInt).natAbs > s.cfg.plausDt ∨ (humidity F - prh.toInt).natAbs > s.cfg.plausDrh) →
      exec .validate s =
        .next { s with prevValid := true, prevT := some (BitVec.ofInt 16 (temperature F)),
                       prevRh := some (BitVec.ofInt 16 (humidity F)), lastStatus := .plaus }) ∧
    (s.prevValid = true → (temperature F - pt.toInt).natAbs ≤ s.cfg.plausDt →
      (humidity F - prh.toInt).natAbs ≤ s.cfg.plausDrh →
      exec .validate s =
        .next { s with prevValid := true, prevT := some (BitVec.ofInt 16 (temperature F)),
                       prevRh := some (BitVec.ofInt 16 (humidity F)), rdT := some (BitVec.ofInt 16 (temperature F)),
                       rdRh := some (BitVec.ofInt 16 (humidity F)), accepted := satInc s.accepted,
                       lastStatus := if s.accepted = 0 then .acceptFirst else .accept })

/-- R136, R138: without a baseline the filter is not applied, and every frame that passes the checksum is accepted. -/
def Obligations.ValidateWithoutBaselineAccepts : Prop :=
  ∀ (s : State) (F : Frame), s.rxFrame = some F → checksumOk F = true → s.prevValid = false →
    exec .validate s =
      .next { s with prevValid := true, prevT := some (BitVec.ofInt 16 (temperature F)),
                     prevRh := some (BitVec.ofInt 16 (humidity F)), rdT := some (BitVec.ofInt 16 (temperature F)),
                     rdRh := some (BitVec.ofInt 16 (humidity F)), accepted := satInc s.accepted,
                     lastStatus := if s.accepted = 0 then .acceptFirst else .accept }

/-- R143: the source's filter examples, for every frame that decodes to them, with limits 50 and 100. -/
def Obligations.SourceFilterExamples : Prop :=
  ∀ (cfg : Config), cfg.plausDt = 50 → cfg.plausDrh = 100 →
    implausible cfg 260 500 200 500 = true ∧ implausible cfg 240 500 200 500 = false

/-- R138: a stimulus that changes the Reading or `accepted` ends in an acceptance, and takes both from the frame it
accepted. -/
def Obligations.OnlyAcceptanceWritesReading : Prop :=
  ∀ (i : Instr) (s t : State), settles i = true → exec i s = .next t →
    (t.rdT ≠ s.rdT ∨ t.rdRh ≠ s.rdRh ∨ t.accepted ≠ s.accepted) →
    ∃ F, t.rxFrame = some F ∧ checksumOk F = true ∧ t.rdT = some (toTenths (temperature F)) ∧
      t.rdRh = some (toTenths (humidity F)) ∧ t.prevT = t.rdT ∧ t.prevRh = t.rdRh ∧ t.accepted = satInc s.accepted ∧
      t.lastStatus = (if s.accepted = 0 then .acceptFirst else .accept)

/-! ## Poll Scheduler, TIME, STOP (43_scheduler.md) -/

/-- R151, R152, R162: the TICK arms that start no transaction; R153 as a row: `S_BUSY`, and then TXN_START. -/
def Obligations.TickArmsResult : Prop :=
  ∀ s : State,
    (∀ remZero, exec (.tickBusy remZero) s = .next s) ∧ (∀ remZero, exec (.tickStopped remZero) s = .next s) ∧
    (s.remaining ≠ 0 → ∃ r : DelayTicks, exec .tickCountdown s = .next { s with remaining := r } ∧
      r.toNat = s.remaining.toNat - 1) ∧
    (∀ lerr, ∃ t, exec (.tickStart lerr) s = .next t ∧ exec (.txnStart lerr) { s with schState := .busy } = .next t)

/-- R69, the row TICK_RESERVED: scheduler code 3 faults, and so does every stimulus but RESET that finds a reserved code (which
stimuli look is the model's reading, log entry 8). -/
def Obligations.ReservedCodesFault : Prop :=
  (∀ (remZero : Bool) (s : State), exec (.tickReserved remZero) s = .fault (.reservedCode .schState)) ∧
  (∀ (i : Instr) (s : State), settles i = true → ¬ s.Legal → ∃ f, exec i s = .fault f ∧ (f.rule = 69 ∨ f.rule = 104))

/-- R153, R111 as one TICK step: in `S_RUN` with `remaining` = 0 a TICK starts a transaction; with `LERR` = 1 its first line
operation fails and the transaction ends in the same step. -/
def Obligations.TickStartsTransaction : Prop :=
  ∀ s : State, s.Inv → s.schState = .run → s.remaining = 0 →
    exec (.tick false) s =
      .next { s with schState := .busy, attempts := satInc s.attempts, log := [(.driveHigh, .ok)], lineMode := .high,
                     orcPhase := .wake, phaseT0 := some s.now } ∧
    exec (.tick true) s =
      .next { s with schState := if s.stopReq = true then .stopped else .run, attempts := satInc s.attempts,
                     log := [(.driveHigh, .err), (.readMode, .ok)], lineMode := .read, lastStatus := .line,
                     remaining := delay s.cfg .lineError }

/-- R154, R155: TXN_END's delay and mode, for each outcome. -/
def Obligations.TxnEndSetsDelayAndMode : Prop :=
  ∀ (s : State) (o : TxnOutcome), ∃ d : DelayTicks,
    exec (.txnEnd o) s = .next { s with remaining := d, schState := if s.stopReq = true then .stopped else .run } ∧
    d.toNat = (if o = .lineError ∨ o = .timeoutError ∨ o = .accepted then s.cfg.defaultDelay else s.cfg.shortDelay)

/-- R158, R150: on every state without reserved codes a STOP latches the request on a fresh log, stops the scheduler if it was
in `S_RUN`, and settles; so in flight the settle alone may move the transaction. With no transaction in flight, or in
`O_WAKE`, `O_START` or `O_WAIT` with the phase not over, that is all it does. -/
def Obligations.StopLatchesRequest : Prop :=
  (∀ s : State, s.Legal →
    exec .stop s =
      exec (.orcEval false)
        { s with log := [], stopReq := true, schState := if s.schState = .run then .stopped else s.schState }) ∧
  (∀ s : State, s.Inv →
    (s.orcPhase = .idle →
      exec .stop s = .next { s with log := [], stopReq := true, schState := .stopped }) ∧
    (∀ t0, s.phaseT0 = some t0 →
      (s.orcPhase = .wake ∧ (s.now - t0).toNat < s.cfg.tWakeUs ∨
        s.orcPhase = .start ∧ (s.now - t0).toNat < s.cfg.tStartUs ∨
        s.orcPhase = .wait ∧ s.done = false ∧ (s.now - t0).toNat < s.cfg.tTimeoutUs) →
      exec .stop s = .next { s with log := [], stopReq := true }))

/-- R157, R150: on every state without reserved codes a TIME writes `now` on a fresh log and settles with its `LERR`; R31: no other
stimulus but RESET writes `now`. With no transaction in flight a TIME changes nothing else, whatever its `LERR` (R80, R114);
in `O_START`, the hold being over, it releases the line and arms (R115). -/
def Obligations.OnlyTimeWritesNow : Prop :=
  (∀ (s : State) (t : Time) (lerr : Bool), s.Legal →
    exec (.time t lerr) s = exec (.orcEval lerr) { s with now := t, log := [] }) ∧
  (∀ (i : Instr) (s u : State), settles i = true → exec i s = .next u →
    u.now = (match i with
      | .time t _ => t
      | _ => s.now)) ∧
  (∀ (s : State) (t : Time) (lerr : Bool), s.Inv → s.orcPhase = .idle →
    exec (.time t lerr) s = .next { s with now := t, log := [] }) ∧
  (∀ (s : State) (t t0 : Time), s.Inv → s.orcPhase = .start → s.phaseT0 = some t0 → s.cfg.tStartUs ≤ (t - t0).toNat →
    exec (.time t false) s =
      .next { s with now := t, log := [(.driveHigh, .ok), (.readMode, .ok)], decState := .awaitingLow, byteIdx := 0,
                     bitIdx := 7, frame := some 0, done := false, lineMode := .read, orcPhase := .wait,
                     phaseT0 := some t })

/-- R34: neither counter ever falls, whatever the stimulus, RESET apart. -/
def Obligations.CountersNeverFall : Prop :=
  ∀ (i : Instr) (s t : State), settles i = true → exec i s = .next t →
    s.attempts.toNat ≤ t.attempts.toNat ∧ s.accepted.toNat ≤ t.accepted.toNat

/-- R156: after a transaction sets `remaining` to `D`, the next `D` ticks start nothing and count it down to 0, and the one after
them starts a transaction. -/
def Obligations.TicksCountDownThenStart : Prop :=
  ∀ (s : State) (ws : List StimWord), s.Inv → s.schState = .run →
    s.stimuli = List.replicate (s.remaining.toNat + 1) 0x3000000000 ++ ws →
    ∃ t u : State, core.run s.remaining.toNat s = .next t ∧ t.schState = .run ∧ t.remaining = 0 ∧
      t.attempts = s.attempts ∧ step t = .next u ∧ u.schState = .busy ∧ u.orcPhase = .wake ∧
      u.attempts = satInc s.attempts ∧ u.stimuli = ws

/-- R205, R191: in `S_STOPPED` no stimulus but RESET changes `sch_state`, `remaining`, the Reading, the counters or
`last_status`. -/
def Obligations.StoppedIsTerminal : Prop :=
  ∀ (i : Instr) (s t : State), settles i = true → s.Inv → s.schState = .stopped → exec i s = .next t →
    t.schState = .stopped ∧ t.remaining = s.remaining ∧ t.rdT = s.rdT ∧ t.rdRh = s.rdRh ∧ t.attempts = s.attempts ∧
      t.accepted = s.accepted ∧ t.lastStatus = s.lastStatus

/-! ## Outputs, reset and configuration (10_state.md, 70_reset_and_hazards.md) -/

/-- R41: `data_valid` is 1 exactly when `accepted` ≥ 2. -/
def Obligations.DataValidFromTwoAcceptances : Prop :=
  ∀ s : State, (observe s).dataValid = true ↔ 2 ≤ s.accepted.toNat

/-- R190, R47: RESET sets every register to its value of R47 and logs nothing, from any state, and keeps the marks; a run starts
as if RESET had just been taken, and so does the host's reset state. That RESET keeps the configuration and the stimuli to
come is the model's reading (log entry 12), and so is that it does not look for a reserved code (log entry 8). -/
def Obligations.ResetSetsEveryRegister : Prop :=
  (∀ s : State, exec .reset s =
    .next { s with
      decState := .idle, byteIdx := 0, bitIdx := 7, frame := none, tsHigh := none, done := false, orcPhase := .idle,
      phaseT0 := none, lineMode := .read, now := 0, rxFrame := none, rdT := none, rdRh := none, prevValid := false,
      prevT := none, prevRh := none, attempts := 0, accepted := 0, lastStatus := .none, schState := .run, remaining := 0,
      stopReq := false, log := [] }) ∧
  (∀ (r : RawConfig) (t : State), boot r = .next t → exec .reset t = .next t) ∧
  exec .reset State.reset = .next State.reset

/-- R192: after reset, under every configuration, the first TICK starts a transaction. -/
def Obligations.FirstTickAfterResetStarts : Prop :=
  ∀ c : Config, ∃ t, exec (.tick false) (State.resetWith c) = .next t ∧ t.orcPhase = .wake ∧ t.schState = .busy ∧
    t.attempts = 1 ∧ t.phaseT0 = some 0 ∧ t.log = [(.driveHigh, .ok)]

/-- R193: a model refuses a configuration that breaks a constraint, and boots one that breaks none with those parameters. That
another `TS_W`, `REM_W` or `CNT_W` is refused too is the model's reading of R9 and R75 (log entry 15). -/
def Obligations.BadConfigurationRefused : Prop :=
  ∀ r : RawConfig,
    (¬ (r.tsW = 32 ∧ r.remW = 16 ∧ r.cntW = 32 ∧ 2000 ≤ r.tWakeUs ∧ 800 ≤ r.tStartUs ∧ 10000 ≤ r.tTimeoutUs ∧
        r.tTimeoutUs ≤ 99999 ∧ r.defaultDelay < 2 ^ 16 ∧ r.shortDelay < 2 ^ 16) →
      boot r = .refused .badConfiguration) ∧
    (r.tsW = 32 ∧ r.remW = 16 ∧ r.cntW = 32 ∧ 2000 ≤ r.tWakeUs ∧ 800 ≤ r.tStartUs ∧ 10000 ≤ r.tTimeoutUs ∧
        r.tTimeoutUs ≤ 99999 ∧ r.defaultDelay < 2 ^ 16 ∧ r.shortDelay < 2 ^ 16 →
      ∃ c : Config, boot r = .next (State.resetWith c) ∧ c.tBitUs = r.tBitUs ∧ c.tWakeUs = r.tWakeUs ∧
        c.tStartUs = r.tStartUs ∧ c.tTimeoutUs = r.tTimeoutUs ∧ c.plausDt = r.plausDt ∧ c.plausDrh = r.plausDrh ∧
        c.defaultDelay = r.defaultDelay ∧ c.shortDelay = r.shortDelay)

/-! ## The whole machine -/

/-- The reset state is sound, under every configuration (R47, R45). -/
def Obligations.ResetIsSound : Prop := (∀ c : Config, (State.resetWith c).Inv) ∧ State.reset.Inv

/-- Every step keeps the invariant: R45's seven invariants, no reserved code (R69), and every register that a rule may read
next holding a value (R48). -/
def Obligations.StepKeepsInvariant : Prop := ∀ s t : State, s.Inv → step s = .next t → t.Inv

/-- Every state reached from reset by steps on delivered words meets R45's invariants. -/
def Obligations.ReachedStatesAreSound : Prop :=
  ∀ (c : Config) (ws : List StimWord) (t : State), Reaches (deliver ws (State.resetWith c)) t → t.Inv

/-- "The block itself never faults on a well-formed stimulus" (R14): on a sound state every well-formed stimulus, RESET among
them, completes, as does STEP of its word and ORC_EVAL; `step` never faults. -/
def Obligations.SoundStatesNeverFault : Prop :=
  ∀ s : State, s.Inv →
    (∀ w : StimWord, spellsNothing w = false → ∃ t, exec (decodeStim w) s = .next t ∧ exec (.step w) s = .next t) ∧
    (∀ (ts : Time) (level : Bool), ∃ t, exec (.trans ts level) s = .next t) ∧
    (∀ (t' : Time) (lerr : Bool), ∃ t, exec (.time t' lerr) s = .next t) ∧
    (∀ lerr : Bool, ∃ t, exec (.tick lerr) s = .next t) ∧
    (∃ t, exec .stop s = .next t) ∧
    (∀ lerr : Bool, ∃ t, exec (.orcEval lerr) s = .next t) ∧
    ∀ f, step s ≠ .fault f

/-- R21, R150: the step is a function of the block's state, with the configuration and the stimulus word as its parameters. What
a step answers is `blockStep`'s answer. The configuration comes through it unwritten, the rest of the queue unread and
unwritten. That the host's `State` carries the two parameters is the model's choice (log entries 3 and 4). -/
def Obligations.StepIsTheBlocksStep : Prop :=
  ∀ (s : State) (w : StimWord) (ws : List StimWord), s.stimuli = w :: ws →
    step s =
      match blockStep s.cfg w s.toBlock with
      | .next b => .next { toBlock := b, cfg := s.cfg, stimuli := ws }
      | .fault f => .fault f
      | .refused x => .refused x
end

