-- ==== Sys2Proof/Laws/State.lean ====
section
/-! SUPPORT. One lemma per field of `State` per named update, each true by `rfl`, so that no later proof unfolds a record
update. What an update writes is 40_decoder.md R90, R99; 41_orchestrator.md R117 to R120; 42_validator.md R137, R138;
43_scheduler.md R154, R157, R158; 70_reset_and_hazards.md R190. -/

namespace Sys2Proof.Machine

variable (s : State)

/-! ## `freshLog` -/

@[simp] theorem freshLog_decState : (freshLog s).decState = s.decState := rfl
@[simp] theorem freshLog_byteIdx : (freshLog s).byteIdx = s.byteIdx := rfl
@[simp] theorem freshLog_bitIdx : (freshLog s).bitIdx = s.bitIdx := rfl
@[simp] theorem freshLog_frame : (freshLog s).frame = s.frame := rfl
@[simp] theorem freshLog_tsHigh : (freshLog s).tsHigh = s.tsHigh := rfl
@[simp] theorem freshLog_done : (freshLog s).done = s.done := rfl
@[simp] theorem freshLog_orcPhase : (freshLog s).orcPhase = s.orcPhase := rfl
@[simp] theorem freshLog_phaseT0 : (freshLog s).phaseT0 = s.phaseT0 := rfl
@[simp] theorem freshLog_lineMode : (freshLog s).lineMode = s.lineMode := rfl
@[simp] theorem freshLog_now : (freshLog s).now = s.now := rfl
@[simp] theorem freshLog_rxFrame : (freshLog s).rxFrame = s.rxFrame := rfl
@[simp] theorem freshLog_rdT : (freshLog s).rdT = s.rdT := rfl
@[simp] theorem freshLog_rdRh : (freshLog s).rdRh = s.rdRh := rfl
@[simp] theorem freshLog_prevValid : (freshLog s).prevValid = s.prevValid := rfl
@[simp] theorem freshLog_prevT : (freshLog s).prevT = s.prevT := rfl
@[simp] theorem freshLog_prevRh : (freshLog s).prevRh = s.prevRh := rfl
@[simp] theorem freshLog_attempts : (freshLog s).attempts = s.attempts := rfl
@[simp] theorem freshLog_accepted : (freshLog s).accepted = s.accepted := rfl
@[simp] theorem freshLog_lastStatus : (freshLog s).lastStatus = s.lastStatus := rfl
@[simp] theorem freshLog_schState : (freshLog s).schState = s.schState := rfl
@[simp] theorem freshLog_remaining : (freshLog s).remaining = s.remaining := rfl
@[simp] theorem freshLog_stopReq : (freshLog s).stopReq = s.stopReq := rfl
@[simp] theorem freshLog_log : (freshLog s).log = [] := rfl
@[simp] theorem freshLog_faultMark : (freshLog s).faultMark = s.faultMark := rfl
@[simp] theorem freshLog_refusalMark : (freshLog s).refusalMark = s.refusalMark := rfl
@[simp] theorem freshLog_cfg : (freshLog s).cfg = s.cfg := rfl
@[simp] theorem freshLog_stimuli : (freshLog s).stimuli = s.stimuli := rfl

/-! ## `markFault` -/

@[simp] theorem markFault_decState (f : Fault) : (markFault f s).decState = s.decState := rfl
@[simp] theorem markFault_byteIdx (f : Fault) : (markFault f s).byteIdx = s.byteIdx := rfl
@[simp] theorem markFault_bitIdx (f : Fault) : (markFault f s).bitIdx = s.bitIdx := rfl
@[simp] theorem markFault_frame (f : Fault) : (markFault f s).frame = s.frame := rfl
@[simp] theorem markFault_tsHigh (f : Fault) : (markFault f s).tsHigh = s.tsHigh := rfl
@[simp] theorem markFault_done (f : Fault) : (markFault f s).done = s.done := rfl
@[simp] theorem markFault_orcPhase (f : Fault) : (markFault f s).orcPhase = s.orcPhase := rfl
@[simp] theorem markFault_phaseT0 (f : Fault) : (markFault f s).phaseT0 = s.phaseT0 := rfl
@[simp] theorem markFault_lineMode (f : Fault) : (markFault f s).lineMode = s.lineMode := rfl
@[simp] theorem markFault_now (f : Fault) : (markFault f s).now = s.now := rfl
@[simp] theorem markFault_rxFrame (f : Fault) : (markFault f s).rxFrame = s.rxFrame := rfl
@[simp] theorem markFault_rdT (f : Fault) : (markFault f s).rdT = s.rdT := rfl
@[simp] theorem markFault_rdRh (f : Fault) : (markFault f s).rdRh = s.rdRh := rfl
@[simp] theorem markFault_prevValid (f : Fault) : (markFault f s).prevValid = s.prevValid := rfl
@[simp] theorem markFault_prevT (f : Fault) : (markFault f s).prevT = s.prevT := rfl
@[simp] theorem markFault_prevRh (f : Fault) : (markFault f s).prevRh = s.prevRh := rfl
@[simp] theorem markFault_attempts (f : Fault) : (markFault f s).attempts = s.attempts := rfl
@[simp] theorem markFault_accepted (f : Fault) : (markFault f s).accepted = s.accepted := rfl
@[simp] theorem markFault_lastStatus (f : Fault) : (markFault f s).lastStatus = s.lastStatus := rfl
@[simp] theorem markFault_schState (f : Fault) : (markFault f s).schState = s.schState := rfl
@[simp] theorem markFault_remaining (f : Fault) : (markFault f s).remaining = s.remaining := rfl
@[simp] theorem markFault_stopReq (f : Fault) : (markFault f s).stopReq = s.stopReq := rfl
@[simp] theorem markFault_log (f : Fault) : (markFault f s).log = s.log := rfl
@[simp] theorem markFault_faultMark (f : Fault) : (markFault f s).faultMark = some (s.faultMark.getD f) := rfl
@[simp] theorem markFault_refusalMark (f : Fault) : (markFault f s).refusalMark = s.refusalMark := rfl
@[simp] theorem markFault_cfg (f : Fault) : (markFault f s).cfg = s.cfg := rfl
@[simp] theorem markFault_stimuli (f : Fault) : (markFault f s).stimuli = s.stimuli := rfl

/-! ## `markRefusal` -/

@[simp] theorem markRefusal_decState : (markRefusal s).decState = s.decState := rfl
@[simp] theorem markRefusal_byteIdx : (markRefusal s).byteIdx = s.byteIdx := rfl
@[simp] theorem markRefusal_bitIdx : (markRefusal s).bitIdx = s.bitIdx := rfl
@[simp] theorem markRefusal_frame : (markRefusal s).frame = s.frame := rfl
@[simp] theorem markRefusal_tsHigh : (markRefusal s).tsHigh = s.tsHigh := rfl
@[simp] theorem markRefusal_done : (markRefusal s).done = s.done := rfl
@[simp] theorem markRefusal_orcPhase : (markRefusal s).orcPhase = s.orcPhase := rfl
@[simp] theorem markRefusal_phaseT0 : (markRefusal s).phaseT0 = s.phaseT0 := rfl
@[simp] theorem markRefusal_lineMode : (markRefusal s).lineMode = s.lineMode := rfl
@[simp] theorem markRefusal_now : (markRefusal s).now = s.now := rfl
@[simp] theorem markRefusal_rxFrame : (markRefusal s).rxFrame = s.rxFrame := rfl
@[simp] theorem markRefusal_rdT : (markRefusal s).rdT = s.rdT := rfl
@[simp] theorem markRefusal_rdRh : (markRefusal s).rdRh = s.rdRh := rfl
@[simp] theorem markRefusal_prevValid : (markRefusal s).prevValid = s.prevValid := rfl
@[simp] theorem markRefusal_prevT : (markRefusal s).prevT = s.prevT := rfl
@[simp] theorem markRefusal_prevRh : (markRefusal s).prevRh = s.prevRh := rfl
@[simp] theorem markRefusal_attempts : (markRefusal s).attempts = s.attempts := rfl
@[simp] theorem markRefusal_accepted : (markRefusal s).accepted = s.accepted := rfl
@[simp] theorem markRefusal_lastStatus : (markRefusal s).lastStatus = s.lastStatus := rfl
@[simp] theorem markRefusal_schState : (markRefusal s).schState = s.schState := rfl
@[simp] theorem markRefusal_remaining : (markRefusal s).remaining = s.remaining := rfl
@[simp] theorem markRefusal_stopReq : (markRefusal s).stopReq = s.stopReq := rfl
@[simp] theorem markRefusal_log : (markRefusal s).log = s.log := rfl
@[simp] theorem markRefusal_faultMark : (markRefusal s).faultMark = s.faultMark := rfl
@[simp] theorem markRefusal_refusalMark : (markRefusal s).refusalMark = true := rfl
@[simp] theorem markRefusal_cfg : (markRefusal s).cfg = s.cfg := rfl
@[simp] theorem markRefusal_stimuli : (markRefusal s).stimuli = s.stimuli := rfl

/-! ## `dropStimulus` -/

@[simp] theorem dropStimulus_decState : (dropStimulus s).decState = s.decState := rfl
@[simp] theorem dropStimulus_byteIdx : (dropStimulus s).byteIdx = s.byteIdx := rfl
@[simp] theorem dropStimulus_bitIdx : (dropStimulus s).bitIdx = s.bitIdx := rfl
@[simp] theorem dropStimulus_frame : (dropStimulus s).frame = s.frame := rfl
@[simp] theorem dropStimulus_tsHigh : (dropStimulus s).tsHigh = s.tsHigh := rfl
@[simp] theorem dropStimulus_done : (dropStimulus s).done = s.done := rfl
@[simp] theorem dropStimulus_orcPhase : (dropStimulus s).orcPhase = s.orcPhase := rfl
@[simp] theorem dropStimulus_phaseT0 : (dropStimulus s).phaseT0 = s.phaseT0 := rfl
@[simp] theorem dropStimulus_lineMode : (dropStimulus s).lineMode = s.lineMode := rfl
@[simp] theorem dropStimulus_now : (dropStimulus s).now = s.now := rfl
@[simp] theorem dropStimulus_rxFrame : (dropStimulus s).rxFrame = s.rxFrame := rfl
@[simp] theorem dropStimulus_rdT : (dropStimulus s).rdT = s.rdT := rfl
@[simp] theorem dropStimulus_rdRh : (dropStimulus s).rdRh = s.rdRh := rfl
@[simp] theorem dropStimulus_prevValid : (dropStimulus s).prevValid = s.prevValid := rfl
@[simp] theorem dropStimulus_prevT : (dropStimulus s).prevT = s.prevT := rfl
@[simp] theorem dropStimulus_prevRh : (dropStimulus s).prevRh = s.prevRh := rfl
@[simp] theorem dropStimulus_attempts : (dropStimulus s).attempts = s.attempts := rfl
@[simp] theorem dropStimulus_accepted : (dropStimulus s).accepted = s.accepted := rfl
@[simp] theorem dropStimulus_lastStatus : (dropStimulus s).lastStatus = s.lastStatus := rfl
@[simp] theorem dropStimulus_schState : (dropStimulus s).schState = s.schState := rfl
@[simp] theorem dropStimulus_remaining : (dropStimulus s).remaining = s.remaining := rfl
@[simp] theorem dropStimulus_stopReq : (dropStimulus s).stopReq = s.stopReq := rfl
@[simp] theorem dropStimulus_log : (dropStimulus s).log = s.log := rfl
@[simp] theorem dropStimulus_faultMark : (dropStimulus s).faultMark = s.faultMark := rfl
@[simp] theorem dropStimulus_refusalMark : (dropStimulus s).refusalMark = s.refusalMark := rfl
@[simp] theorem dropStimulus_cfg : (dropStimulus s).cfg = s.cfg := rfl
@[simp] theorem dropStimulus_stimuli : (dropStimulus s).stimuli = s.stimuli.tail := rfl

/-! ## `placeStim` -/

@[simp] theorem placeStim_decState (w : StimWord) : (placeStim w s).decState = s.decState := rfl
@[simp] theorem placeStim_byteIdx (w : StimWord) : (placeStim w s).byteIdx = s.byteIdx := rfl
@[simp] theorem placeStim_bitIdx (w : StimWord) : (placeStim w s).bitIdx = s.bitIdx := rfl
@[simp] theorem placeStim_frame (w : StimWord) : (placeStim w s).frame = s.frame := rfl
@[simp] theorem placeStim_tsHigh (w : StimWord) : (placeStim w s).tsHigh = s.tsHigh := rfl
@[simp] theorem placeStim_done (w : StimWord) : (placeStim w s).done = s.done := rfl
@[simp] theorem placeStim_orcPhase (w : StimWord) : (placeStim w s).orcPhase = s.orcPhase := rfl
@[simp] theorem placeStim_phaseT0 (w : StimWord) : (placeStim w s).phaseT0 = s.phaseT0 := rfl
@[simp] theorem placeStim_lineMode (w : StimWord) : (placeStim w s).lineMode = s.lineMode := rfl
@[simp] theorem placeStim_now (w : StimWord) : (placeStim w s).now = s.now := rfl
@[simp] theorem placeStim_rxFrame (w : StimWord) : (placeStim w s).rxFrame = s.rxFrame := rfl
@[simp] theorem placeStim_rdT (w : StimWord) : (placeStim w s).rdT = s.rdT := rfl
@[simp] theorem placeStim_rdRh (w : StimWord) : (placeStim w s).rdRh = s.rdRh := rfl
@[simp] theorem placeStim_prevValid (w : StimWord) : (placeStim w s).prevValid = s.prevValid := rfl
@[simp] theorem placeStim_prevT (w : StimWord) : (placeStim w s).prevT = s.prevT := rfl
@[simp] theorem placeStim_prevRh (w : StimWord) : (placeStim w s).prevRh = s.prevRh := rfl
@[simp] theorem placeStim_attempts (w : StimWord) : (placeStim w s).attempts = s.attempts := rfl
@[simp] theorem placeStim_accepted (w : StimWord) : (placeStim w s).accepted = s.accepted := rfl
@[simp] theorem placeStim_lastStatus (w : StimWord) : (placeStim w s).lastStatus = s.lastStatus := rfl
@[simp] theorem placeStim_schState (w : StimWord) : (placeStim w s).schState = s.schState := rfl
@[simp] theorem placeStim_remaining (w : StimWord) : (placeStim w s).remaining = s.remaining := rfl
@[simp] theorem placeStim_stopReq (w : StimWord) : (placeStim w s).stopReq = s.stopReq := rfl
@[simp] theorem placeStim_log (w : StimWord) : (placeStim w s).log = s.log := rfl
@[simp] theorem placeStim_faultMark (w : StimWord) : (placeStim w s).faultMark = s.faultMark := rfl
@[simp] theorem placeStim_refusalMark (w : StimWord) : (placeStim w s).refusalMark = s.refusalMark := rfl
@[simp] theorem placeStim_cfg (w : StimWord) : (placeStim w s).cfg = s.cfg := rfl
@[simp] theorem placeStim_stimuli (w : StimWord) : (placeStim w s).stimuli = w :: s.stimuli := rfl

/-! ## `deliver` -/

@[simp] theorem deliver_decState (ws : List StimWord) : (deliver ws s).decState = s.decState := rfl
@[simp] theorem deliver_byteIdx (ws : List StimWord) : (deliver ws s).byteIdx = s.byteIdx := rfl
@[simp] theorem deliver_bitIdx (ws : List StimWord) : (deliver ws s).bitIdx = s.bitIdx := rfl
@[simp] theorem deliver_frame (ws : List StimWord) : (deliver ws s).frame = s.frame := rfl
@[simp] theorem deliver_tsHigh (ws : List StimWord) : (deliver ws s).tsHigh = s.tsHigh := rfl
@[simp] theorem deliver_done (ws : List StimWord) : (deliver ws s).done = s.done := rfl
@[simp] theorem deliver_orcPhase (ws : List StimWord) : (deliver ws s).orcPhase = s.orcPhase := rfl
@[simp] theorem deliver_phaseT0 (ws : List StimWord) : (deliver ws s).phaseT0 = s.phaseT0 := rfl
@[simp] theorem deliver_lineMode (ws : List StimWord) : (deliver ws s).lineMode = s.lineMode := rfl
@[simp] theorem deliver_now (ws : List StimWord) : (deliver ws s).now = s.now := rfl
@[simp] theorem deliver_rxFrame (ws : List StimWord) : (deliver ws s).rxFrame = s.rxFrame := rfl
@[simp] theorem deliver_rdT (ws : List StimWord) : (deliver ws s).rdT = s.rdT := rfl
@[simp] theorem deliver_rdRh (ws : List StimWord) : (deliver ws s).rdRh = s.rdRh := rfl
@[simp] theorem deliver_prevValid (ws : List StimWord) : (deliver ws s).prevValid = s.prevValid := rfl
@[simp] theorem deliver_prevT (ws : List StimWord) : (deliver ws s).prevT = s.prevT := rfl
@[simp] theorem deliver_prevRh (ws : List StimWord) : (deliver ws s).prevRh = s.prevRh := rfl
@[simp] theorem deliver_attempts (ws : List StimWord) : (deliver ws s).attempts = s.attempts := rfl
@[simp] theorem deliver_accepted (ws : List StimWord) : (deliver ws s).accepted = s.accepted := rfl
@[simp] theorem deliver_lastStatus (ws : List StimWord) : (deliver ws s).lastStatus = s.lastStatus := rfl
@[simp] theorem deliver_schState (ws : List StimWord) : (deliver ws s).schState = s.schState := rfl
@[simp] theorem deliver_remaining (ws : List StimWord) : (deliver ws s).remaining = s.remaining := rfl
@[simp] theorem deliver_stopReq (ws : List StimWord) : (deliver ws s).stopReq = s.stopReq := rfl
@[simp] theorem deliver_log (ws : List StimWord) : (deliver ws s).log = s.log := rfl
@[simp] theorem deliver_faultMark (ws : List StimWord) : (deliver ws s).faultMark = s.faultMark := rfl
@[simp] theorem deliver_refusalMark (ws : List StimWord) : (deliver ws s).refusalMark = s.refusalMark := rfl
@[simp] theorem deliver_cfg (ws : List StimWord) : (deliver ws s).cfg = s.cfg := rfl
@[simp] theorem deliver_stimuli (ws : List StimWord) : (deliver ws s).stimuli = s.stimuli ++ ws := rfl

/-! ## `armDecoder` -/

@[simp] theorem armDecoder_decState : (armDecoder s).decState = .awaitingLow := rfl
@[simp] theorem armDecoder_byteIdx : (armDecoder s).byteIdx = 0 := rfl
@[simp] theorem armDecoder_bitIdx : (armDecoder s).bitIdx = 7 := rfl
@[simp] theorem armDecoder_frame : (armDecoder s).frame = some 0 := rfl
@[simp] theorem armDecoder_tsHigh : (armDecoder s).tsHigh = s.tsHigh := rfl
@[simp] theorem armDecoder_done : (armDecoder s).done = false := rfl
@[simp] theorem armDecoder_orcPhase : (armDecoder s).orcPhase = s.orcPhase := rfl
@[simp] theorem armDecoder_phaseT0 : (armDecoder s).phaseT0 = s.phaseT0 := rfl
@[simp] theorem armDecoder_lineMode : (armDecoder s).lineMode = s.lineMode := rfl
@[simp] theorem armDecoder_now : (armDecoder s).now = s.now := rfl
@[simp] theorem armDecoder_rxFrame : (armDecoder s).rxFrame = s.rxFrame := rfl
@[simp] theorem armDecoder_rdT : (armDecoder s).rdT = s.rdT := rfl
@[simp] theorem armDecoder_rdRh : (armDecoder s).rdRh = s.rdRh := rfl
@[simp] theorem armDecoder_prevValid : (armDecoder s).prevValid = s.prevValid := rfl
@[simp] theorem armDecoder_prevT : (armDecoder s).prevT = s.prevT := rfl
@[simp] theorem armDecoder_prevRh : (armDecoder s).prevRh = s.prevRh := rfl
@[simp] theorem armDecoder_attempts : (armDecoder s).attempts = s.attempts := rfl
@[simp] theorem armDecoder_accepted : (armDecoder s).accepted = s.accepted := rfl
@[simp] theorem armDecoder_lastStatus : (armDecoder s).lastStatus = s.lastStatus := rfl
@[simp] theorem armDecoder_schState : (armDecoder s).schState = s.schState := rfl
@[simp] theorem armDecoder_remaining : (armDecoder s).remaining = s.remaining := rfl
@[simp] theorem armDecoder_stopReq : (armDecoder s).stopReq = s.stopReq := rfl
@[simp] theorem armDecoder_log : (armDecoder s).log = s.log := rfl
@[simp] theorem armDecoder_faultMark : (armDecoder s).faultMark = s.faultMark := rfl
@[simp] theorem armDecoder_refusalMark : (armDecoder s).refusalMark = s.refusalMark := rfl
@[simp] theorem armDecoder_cfg : (armDecoder s).cfg = s.cfg := rfl
@[simp] theorem armDecoder_stimuli : (armDecoder s).stimuli = s.stimuli := rfl

/-! ## `completeFrame` -/

@[simp] theorem completeFrame_decState : (completeFrame s).decState = .idle := rfl
@[simp] theorem completeFrame_byteIdx : (completeFrame s).byteIdx = s.byteIdx := rfl
@[simp] theorem completeFrame_bitIdx : (completeFrame s).bitIdx = s.bitIdx := rfl
@[simp] theorem completeFrame_frame : (completeFrame s).frame = s.frame := rfl
@[simp] theorem completeFrame_tsHigh : (completeFrame s).tsHigh = s.tsHigh := rfl
@[simp] theorem completeFrame_done : (completeFrame s).done = true := rfl
@[simp] theorem completeFrame_orcPhase : (completeFrame s).orcPhase = s.orcPhase := rfl
@[simp] theorem completeFrame_phaseT0 : (completeFrame s).phaseT0 = s.phaseT0 := rfl
@[simp] theorem completeFrame_lineMode : (completeFrame s).lineMode = s.lineMode := rfl
@[simp] theorem completeFrame_now : (completeFrame s).now = s.now := rfl
@[simp] theorem completeFrame_rxFrame : (completeFrame s).rxFrame = s.rxFrame := rfl
@[simp] theorem completeFrame_rdT : (completeFrame s).rdT = s.rdT := rfl
@[simp] theorem completeFrame_rdRh : (completeFrame s).rdRh = s.rdRh := rfl
@[simp] theorem completeFrame_prevValid : (completeFrame s).prevValid = s.prevValid := rfl
@[simp] theorem completeFrame_prevT : (completeFrame s).prevT = s.prevT := rfl
@[simp] theorem completeFrame_prevRh : (completeFrame s).prevRh = s.prevRh := rfl
@[simp] theorem completeFrame_attempts : (completeFrame s).attempts = s.attempts := rfl
@[simp] theorem completeFrame_accepted : (completeFrame s).accepted = s.accepted := rfl
@[simp] theorem completeFrame_lastStatus : (completeFrame s).lastStatus = s.lastStatus := rfl
@[simp] theorem completeFrame_schState : (completeFrame s).schState = s.schState := rfl
@[simp] theorem completeFrame_remaining : (completeFrame s).remaining = s.remaining := rfl
@[simp] theorem completeFrame_stopReq : (completeFrame s).stopReq = s.stopReq := rfl
@[simp] theorem completeFrame_log : (completeFrame s).log = s.log := rfl
@[simp] theorem completeFrame_faultMark : (completeFrame s).faultMark = s.faultMark := rfl
@[simp] theorem completeFrame_refusalMark : (completeFrame s).refusalMark = s.refusalMark := rfl
@[simp] theorem completeFrame_cfg : (completeFrame s).cfg = s.cfg := rfl
@[simp] theorem completeFrame_stimuli : (completeFrame s).stimuli = s.stimuli := rfl

/-! ## `emitLineOp` -/

@[simp] theorem emitLineOp_decState (op : LineOp) (lerr release : Bool) : (emitLineOp op lerr release s).decState = s.decState := rfl
@[simp] theorem emitLineOp_byteIdx (op : LineOp) (lerr release : Bool) : (emitLineOp op lerr release s).byteIdx = s.byteIdx := rfl
@[simp] theorem emitLineOp_bitIdx (op : LineOp) (lerr release : Bool) : (emitLineOp op lerr release s).bitIdx = s.bitIdx := rfl
@[simp] theorem emitLineOp_frame (op : LineOp) (lerr release : Bool) : (emitLineOp op lerr release s).frame = s.frame := rfl
@[simp] theorem emitLineOp_tsHigh (op : LineOp) (lerr release : Bool) : (emitLineOp op lerr release s).tsHigh = s.tsHigh := rfl
@[simp] theorem emitLineOp_done (op : LineOp) (lerr release : Bool) : (emitLineOp op lerr release s).done = s.done := rfl
@[simp] theorem emitLineOp_orcPhase (op : LineOp) (lerr release : Bool) : (emitLineOp op lerr release s).orcPhase = s.orcPhase := rfl
@[simp] theorem emitLineOp_phaseT0 (op : LineOp) (lerr release : Bool) : (emitLineOp op lerr release s).phaseT0 = s.phaseT0 := rfl
@[simp] theorem emitLineOp_lineMode (op : LineOp) (lerr release : Bool) : (emitLineOp op lerr release s).lineMode = s.lineMode := rfl
@[simp] theorem emitLineOp_now (op : LineOp) (lerr release : Bool) : (emitLineOp op lerr release s).now = s.now := rfl
@[simp] theorem emitLineOp_rxFrame (op : LineOp) (lerr release : Bool) : (emitLineOp op lerr release s).rxFrame = s.rxFrame := rfl
@[simp] theorem emitLineOp_rdT (op : LineOp) (lerr release : Bool) : (emitLineOp op lerr release s).rdT = s.rdT := rfl
@[simp] theorem emitLineOp_rdRh (op : LineOp) (lerr release : Bool) : (emitLineOp op lerr release s).rdRh = s.rdRh := rfl
@[simp] theorem emitLineOp_prevValid (op : LineOp) (lerr release : Bool) : (emitLineOp op lerr release s).prevValid = s.prevValid := rfl
@[simp] theorem emitLineOp_prevT (op : LineOp) (lerr release : Bool) : (emitLineOp op lerr release s).prevT = s.prevT := rfl
@[simp] theorem emitLineOp_prevRh (op : LineOp) (lerr release : Bool) : (emitLineOp op lerr release s).prevRh = s.prevRh := rfl
@[simp] theorem emitLineOp_attempts (op : LineOp) (lerr release : Bool) : (emitLineOp op lerr release s).attempts = s.attempts := rfl
@[simp] theorem emitLineOp_accepted (op : LineOp) (lerr release : Bool) : (emitLineOp op lerr release s).accepted = s.accepted := rfl
@[simp] theorem emitLineOp_lastStatus (op : LineOp) (lerr release : Bool) : (emitLineOp op lerr release s).lastStatus = s.lastStatus := rfl
@[simp] theorem emitLineOp_schState (op : LineOp) (lerr release : Bool) : (emitLineOp op lerr release s).schState = s.schState := rfl
@[simp] theorem emitLineOp_remaining (op : LineOp) (lerr release : Bool) : (emitLineOp op lerr release s).remaining = s.remaining := rfl
@[simp] theorem emitLineOp_stopReq (op : LineOp) (lerr release : Bool) : (emitLineOp op lerr release s).stopReq = s.stopReq := rfl
@[simp] theorem emitLineOp_log (op : LineOp) (lerr release : Bool) : (emitLineOp op lerr release s).log = s.log ++ [(op, lineResult s.log lerr release)] := rfl
@[simp] theorem emitLineOp_faultMark (op : LineOp) (lerr release : Bool) : (emitLineOp op lerr release s).faultMark = s.faultMark := rfl
@[simp] theorem emitLineOp_refusalMark (op : LineOp) (lerr release : Bool) : (emitLineOp op lerr release s).refusalMark = s.refusalMark := rfl
@[simp] theorem emitLineOp_cfg (op : LineOp) (lerr release : Bool) : (emitLineOp op lerr release s).cfg = s.cfg := rfl
@[simp] theorem emitLineOp_stimuli (op : LineOp) (lerr release : Bool) : (emitLineOp op lerr release s).stimuli = s.stimuli := rfl

/-! ## `endTransaction` -/

@[simp] theorem endTransaction_decState (o : TxnOutcome) : (endTransaction o s).decState = s.decState := rfl
@[simp] theorem endTransaction_byteIdx (o : TxnOutcome) : (endTransaction o s).byteIdx = s.byteIdx := rfl
@[simp] theorem endTransaction_bitIdx (o : TxnOutcome) : (endTransaction o s).bitIdx = s.bitIdx := rfl
@[simp] theorem endTransaction_frame (o : TxnOutcome) : (endTransaction o s).frame = s.frame := rfl
@[simp] theorem endTransaction_tsHigh (o : TxnOutcome) : (endTransaction o s).tsHigh = s.tsHigh := rfl
@[simp] theorem endTransaction_done (o : TxnOutcome) : (endTransaction o s).done = s.done := rfl
@[simp] theorem endTransaction_orcPhase (o : TxnOutcome) : (endTransaction o s).orcPhase = s.orcPhase := rfl
@[simp] theorem endTransaction_phaseT0 (o : TxnOutcome) : (endTransaction o s).phaseT0 = s.phaseT0 := rfl
@[simp] theorem endTransaction_lineMode (o : TxnOutcome) : (endTransaction o s).lineMode = s.lineMode := rfl
@[simp] theorem endTransaction_now (o : TxnOutcome) : (endTransaction o s).now = s.now := rfl
@[simp] theorem endTransaction_rxFrame (o : TxnOutcome) : (endTransaction o s).rxFrame = s.rxFrame := rfl
@[simp] theorem endTransaction_rdT (o : TxnOutcome) : (endTransaction o s).rdT = s.rdT := rfl
@[simp] theorem endTransaction_rdRh (o : TxnOutcome) : (endTransaction o s).rdRh = s.rdRh := rfl
@[simp] theorem endTransaction_prevValid (o : TxnOutcome) : (endTransaction o s).prevValid = s.prevValid := rfl
@[simp] theorem endTransaction_prevT (o : TxnOutcome) : (endTransaction o s).prevT = s.prevT := rfl
@[simp] theorem endTransaction_prevRh (o : TxnOutcome) : (endTransaction o s).prevRh = s.prevRh := rfl
@[simp] theorem endTransaction_attempts (o : TxnOutcome) : (endTransaction o s).attempts = s.attempts := rfl
@[simp] theorem endTransaction_accepted (o : TxnOutcome) : (endTransaction o s).accepted = s.accepted := rfl
@[simp] theorem endTransaction_lastStatus (o : TxnOutcome) : (endTransaction o s).lastStatus = s.lastStatus := rfl
@[simp] theorem endTransaction_schState (o : TxnOutcome) : (endTransaction o s).schState = if s.stopReq then .stopped else .run := rfl
@[simp] theorem endTransaction_remaining (o : TxnOutcome) : (endTransaction o s).remaining = delay s.cfg o := rfl
@[simp] theorem endTransaction_stopReq (o : TxnOutcome) : (endTransaction o s).stopReq = s.stopReq := rfl
@[simp] theorem endTransaction_log (o : TxnOutcome) : (endTransaction o s).log = s.log := rfl
@[simp] theorem endTransaction_faultMark (o : TxnOutcome) : (endTransaction o s).faultMark = s.faultMark := rfl
@[simp] theorem endTransaction_refusalMark (o : TxnOutcome) : (endTransaction o s).refusalMark = s.refusalMark := rfl
@[simp] theorem endTransaction_cfg (o : TxnOutcome) : (endTransaction o s).cfg = s.cfg := rfl
@[simp] theorem endTransaction_stimuli (o : TxnOutcome) : (endTransaction o s).stimuli = s.stimuli := rfl

/-! ## `raiseError` -/

@[simp] theorem raiseError_decState (st : Status) (o : TxnOutcome) : (raiseError st o s).decState = s.decState := rfl
@[simp] theorem raiseError_byteIdx (st : Status) (o : TxnOutcome) : (raiseError st o s).byteIdx = s.byteIdx := rfl
@[simp] theorem raiseError_bitIdx (st : Status) (o : TxnOutcome) : (raiseError st o s).bitIdx = s.bitIdx := rfl
@[simp] theorem raiseError_frame (st : Status) (o : TxnOutcome) : (raiseError st o s).frame = s.frame := rfl
@[simp] theorem raiseError_tsHigh (st : Status) (o : TxnOutcome) : (raiseError st o s).tsHigh = s.tsHigh := rfl
@[simp] theorem raiseError_done (st : Status) (o : TxnOutcome) : (raiseError st o s).done = s.done := rfl
@[simp] theorem raiseError_orcPhase (st : Status) (o : TxnOutcome) : (raiseError st o s).orcPhase = .idle := rfl
@[simp] theorem raiseError_phaseT0 (st : Status) (o : TxnOutcome) : (raiseError st o s).phaseT0 = s.phaseT0 := rfl
@[simp] theorem raiseError_lineMode (st : Status) (o : TxnOutcome) : (raiseError st o s).lineMode = s.lineMode := rfl
@[simp] theorem raiseError_now (st : Status) (o : TxnOutcome) : (raiseError st o s).now = s.now := rfl
@[simp] theorem raiseError_rxFrame (st : Status) (o : TxnOutcome) : (raiseError st o s).rxFrame = s.rxFrame := rfl
@[simp] theorem raiseError_rdT (st : Status) (o : TxnOutcome) : (raiseError st o s).rdT = s.rdT := rfl
@[simp] theorem raiseError_rdRh (st : Status) (o : TxnOutcome) : (raiseError st o s).rdRh = s.rdRh := rfl
@[simp] theorem raiseError_prevValid (st : Status) (o : TxnOutcome) : (raiseError st o s).prevValid = s.prevValid := rfl
@[simp] theorem raiseError_prevT (st : Status) (o : TxnOutcome) : (raiseError st o s).prevT = s.prevT := rfl
@[simp] theorem raiseError_prevRh (st : Status) (o : TxnOutcome) : (raiseError st o s).prevRh = s.prevRh := rfl
@[simp] theorem raiseError_attempts (st : Status) (o : TxnOutcome) : (raiseError st o s).attempts = s.attempts := rfl
@[simp] theorem raiseError_accepted (st : Status) (o : TxnOutcome) : (raiseError st o s).accepted = s.accepted := rfl
@[simp] theorem raiseError_lastStatus (st : Status) (o : TxnOutcome) : (raiseError st o s).lastStatus = st := rfl
@[simp] theorem raiseError_schState (st : Status) (o : TxnOutcome) : (raiseError st o s).schState = if s.stopReq then .stopped else .run := rfl
@[simp] theorem raiseError_remaining (st : Status) (o : TxnOutcome) : (raiseError st o s).remaining = delay s.cfg o := rfl
@[simp] theorem raiseError_stopReq (st : Status) (o : TxnOutcome) : (raiseError st o s).stopReq = s.stopReq := rfl
@[simp] theorem raiseError_log (st : Status) (o : TxnOutcome) : (raiseError st o s).log = s.log := rfl
@[simp] theorem raiseError_faultMark (st : Status) (o : TxnOutcome) : (raiseError st o s).faultMark = s.faultMark := rfl
@[simp] theorem raiseError_refusalMark (st : Status) (o : TxnOutcome) : (raiseError st o s).refusalMark = s.refusalMark := rfl
@[simp] theorem raiseError_cfg (st : Status) (o : TxnOutcome) : (raiseError st o s).cfg = s.cfg := rfl
@[simp] theorem raiseError_stimuli (st : Status) (o : TxnOutcome) : (raiseError st o s).stimuli = s.stimuli := rfl

/-! ## `timeoutError` -/

@[simp] theorem timeoutError_decState : (timeoutError s).decState = s.decState := rfl
@[simp] theorem timeoutError_byteIdx : (timeoutError s).byteIdx = s.byteIdx := rfl
@[simp] theorem timeoutError_bitIdx : (timeoutError s).bitIdx = s.bitIdx := rfl
@[simp] theorem timeoutError_frame : (timeoutError s).frame = s.frame := rfl
@[simp] theorem timeoutError_tsHigh : (timeoutError s).tsHigh = s.tsHigh := rfl
@[simp] theorem timeoutError_done : (timeoutError s).done = s.done := rfl
@[simp] theorem timeoutError_orcPhase : (timeoutError s).orcPhase = .idle := rfl
@[simp] theorem timeoutError_phaseT0 : (timeoutError s).phaseT0 = s.phaseT0 := rfl
@[simp] theorem timeoutError_lineMode : (timeoutError s).lineMode = s.lineMode := rfl
@[simp] theorem timeoutError_now : (timeoutError s).now = s.now := rfl
@[simp] theorem timeoutError_rxFrame : (timeoutError s).rxFrame = s.rxFrame := rfl
@[simp] theorem timeoutError_rdT : (timeoutError s).rdT = s.rdT := rfl
@[simp] theorem timeoutError_rdRh : (timeoutError s).rdRh = s.rdRh := rfl
@[simp] theorem timeoutError_prevValid : (timeoutError s).prevValid = s.prevValid := rfl
@[simp] theorem timeoutError_prevT : (timeoutError s).prevT = s.prevT := rfl
@[simp] theorem timeoutError_prevRh : (timeoutError s).prevRh = s.prevRh := rfl
@[simp] theorem timeoutError_attempts : (timeoutError s).attempts = s.attempts := rfl
@[simp] theorem timeoutError_accepted : (timeoutError s).accepted = s.accepted := rfl
@[simp] theorem timeoutError_lastStatus : (timeoutError s).lastStatus = .timeout := rfl
@[simp] theorem timeoutError_schState : (timeoutError s).schState = if s.stopReq then .stopped else .run := rfl
@[simp] theorem timeoutError_remaining : (timeoutError s).remaining = delay s.cfg .timeoutError := rfl
@[simp] theorem timeoutError_stopReq : (timeoutError s).stopReq = s.stopReq := rfl
@[simp] theorem timeoutError_log : (timeoutError s).log = s.log := rfl
@[simp] theorem timeoutError_faultMark : (timeoutError s).faultMark = s.faultMark := rfl
@[simp] theorem timeoutError_refusalMark : (timeoutError s).refusalMark = s.refusalMark := rfl
@[simp] theorem timeoutError_cfg : (timeoutError s).cfg = s.cfg := rfl
@[simp] theorem timeoutError_stimuli : (timeoutError s).stimuli = s.stimuli := rfl

/-! ## `lineError` -/

@[simp] theorem lineError_decState : (lineError s).decState = s.decState := rfl
@[simp] theorem lineError_byteIdx : (lineError s).byteIdx = s.byteIdx := rfl
@[simp] theorem lineError_bitIdx : (lineError s).bitIdx = s.bitIdx := rfl
@[simp] theorem lineError_frame : (lineError s).frame = s.frame := rfl
@[simp] theorem lineError_tsHigh : (lineError s).tsHigh = s.tsHigh := rfl
@[simp] theorem lineError_done : (lineError s).done = s.done := rfl
@[simp] theorem lineError_orcPhase : (lineError s).orcPhase = .idle := rfl
@[simp] theorem lineError_phaseT0 : (lineError s).phaseT0 = s.phaseT0 := rfl
@[simp] theorem lineError_lineMode : (lineError s).lineMode = .read := rfl
@[simp] theorem lineError_now : (lineError s).now = s.now := rfl
@[simp] theorem lineError_rxFrame : (lineError s).rxFrame = s.rxFrame := rfl
@[simp] theorem lineError_rdT : (lineError s).rdT = s.rdT := rfl
@[simp] theorem lineError_rdRh : (lineError s).rdRh = s.rdRh := rfl
@[simp] theorem lineError_prevValid : (lineError s).prevValid = s.prevValid := rfl
@[simp] theorem lineError_prevT : (lineError s).prevT = s.prevT := rfl
@[simp] theorem lineError_prevRh : (lineError s).prevRh = s.prevRh := rfl
@[simp] theorem lineError_attempts : (lineError s).attempts = s.attempts := rfl
@[simp] theorem lineError_accepted : (lineError s).accepted = s.accepted := rfl
@[simp] theorem lineError_lastStatus : (lineError s).lastStatus = .line := rfl
@[simp] theorem lineError_schState : (lineError s).schState = if s.stopReq then .stopped else .run := rfl
@[simp] theorem lineError_remaining : (lineError s).remaining = delay s.cfg .lineError := rfl
@[simp] theorem lineError_stopReq : (lineError s).stopReq = s.stopReq := rfl
@[simp] theorem lineError_log : (lineError s).log = s.log ++ [(.readMode, lineResult s.log false true)] := rfl
@[simp] theorem lineError_faultMark : (lineError s).faultMark = s.faultMark := rfl
@[simp] theorem lineError_refusalMark : (lineError s).refusalMark = s.refusalMark := rfl
@[simp] theorem lineError_cfg : (lineError s).cfg = s.cfg := rfl
@[simp] theorem lineError_stimuli : (lineError s).stimuli = s.stimuli := rfl

/-! ## `setNow` -/

@[simp] theorem setNow_decState (t : Time) : (setNow t s).decState = s.decState := rfl
@[simp] theorem setNow_byteIdx (t : Time) : (setNow t s).byteIdx = s.byteIdx := rfl
@[simp] theorem setNow_bitIdx (t : Time) : (setNow t s).bitIdx = s.bitIdx := rfl
@[simp] theorem setNow_frame (t : Time) : (setNow t s).frame = s.frame := rfl
@[simp] theorem setNow_tsHigh (t : Time) : (setNow t s).tsHigh = s.tsHigh := rfl
@[simp] theorem setNow_done (t : Time) : (setNow t s).done = s.done := rfl
@[simp] theorem setNow_orcPhase (t : Time) : (setNow t s).orcPhase = s.orcPhase := rfl
@[simp] theorem setNow_phaseT0 (t : Time) : (setNow t s).phaseT0 = s.phaseT0 := rfl
@[simp] theorem setNow_lineMode (t : Time) : (setNow t s).lineMode = s.lineMode := rfl
@[simp] theorem setNow_now (t : Time) : (setNow t s).now = t := rfl
@[simp] theorem setNow_rxFrame (t : Time) : (setNow t s).rxFrame = s.rxFrame := rfl
@[simp] theorem setNow_rdT (t : Time) : (setNow t s).rdT = s.rdT := rfl
@[simp] theorem setNow_rdRh (t : Time) : (setNow t s).rdRh = s.rdRh := rfl
@[simp] theorem setNow_prevValid (t : Time) : (setNow t s).prevValid = s.prevValid := rfl
@[simp] theorem setNow_prevT (t : Time) : (setNow t s).prevT = s.prevT := rfl
@[simp] theorem setNow_prevRh (t : Time) : (setNow t s).prevRh = s.prevRh := rfl
@[simp] theorem setNow_attempts (t : Time) : (setNow t s).attempts = s.attempts := rfl
@[simp] theorem setNow_accepted (t : Time) : (setNow t s).accepted = s.accepted := rfl
@[simp] theorem setNow_lastStatus (t : Time) : (setNow t s).lastStatus = s.lastStatus := rfl
@[simp] theorem setNow_schState (t : Time) : (setNow t s).schState = s.schState := rfl
@[simp] theorem setNow_remaining (t : Time) : (setNow t s).remaining = s.remaining := rfl
@[simp] theorem setNow_stopReq (t : Time) : (setNow t s).stopReq = s.stopReq := rfl
@[simp] theorem setNow_log (t : Time) : (setNow t s).log = s.log := rfl
@[simp] theorem setNow_faultMark (t : Time) : (setNow t s).faultMark = s.faultMark := rfl
@[simp] theorem setNow_refusalMark (t : Time) : (setNow t s).refusalMark = s.refusalMark := rfl
@[simp] theorem setNow_cfg (t : Time) : (setNow t s).cfg = s.cfg := rfl
@[simp] theorem setNow_stimuli (t : Time) : (setNow t s).stimuli = s.stimuli := rfl

/-! ## `requestStop` -/

@[simp] theorem requestStop_decState : (requestStop s).decState = s.decState := rfl
@[simp] theorem requestStop_byteIdx : (requestStop s).byteIdx = s.byteIdx := rfl
@[simp] theorem requestStop_bitIdx : (requestStop s).bitIdx = s.bitIdx := rfl
@[simp] theorem requestStop_frame : (requestStop s).frame = s.frame := rfl
@[simp] theorem requestStop_tsHigh : (requestStop s).tsHigh = s.tsHigh := rfl
@[simp] theorem requestStop_done : (requestStop s).done = s.done := rfl
@[simp] theorem requestStop_orcPhase : (requestStop s).orcPhase = s.orcPhase := rfl
@[simp] theorem requestStop_phaseT0 : (requestStop s).phaseT0 = s.phaseT0 := rfl
@[simp] theorem requestStop_lineMode : (requestStop s).lineMode = s.lineMode := rfl
@[simp] theorem requestStop_now : (requestStop s).now = s.now := rfl
@[simp] theorem requestStop_rxFrame : (requestStop s).rxFrame = s.rxFrame := rfl
@[simp] theorem requestStop_rdT : (requestStop s).rdT = s.rdT := rfl
@[simp] theorem requestStop_rdRh : (requestStop s).rdRh = s.rdRh := rfl
@[simp] theorem requestStop_prevValid : (requestStop s).prevValid = s.prevValid := rfl
@[simp] theorem requestStop_prevT : (requestStop s).prevT = s.prevT := rfl
@[simp] theorem requestStop_prevRh : (requestStop s).prevRh = s.prevRh := rfl
@[simp] theorem requestStop_attempts : (requestStop s).attempts = s.attempts := rfl
@[simp] theorem requestStop_accepted : (requestStop s).accepted = s.accepted := rfl
@[simp] theorem requestStop_lastStatus : (requestStop s).lastStatus = s.lastStatus := rfl
@[simp] theorem requestStop_schState : (requestStop s).schState = if s.schState = .run then .stopped else s.schState := rfl
@[simp] theorem requestStop_remaining : (requestStop s).remaining = s.remaining := rfl
@[simp] theorem requestStop_stopReq : (requestStop s).stopReq = true := rfl
@[simp] theorem requestStop_log : (requestStop s).log = s.log := rfl
@[simp] theorem requestStop_faultMark : (requestStop s).faultMark = s.faultMark := rfl
@[simp] theorem requestStop_refusalMark : (requestStop s).refusalMark = s.refusalMark := rfl
@[simp] theorem requestStop_cfg : (requestStop s).cfg = s.cfg := rfl
@[simp] theorem requestStop_stimuli : (requestStop s).stimuli = s.stimuli := rfl

/-! ## `handOff` -/

@[simp] theorem handOff_decState (F : Frame) : (handOff F s).decState = s.decState := rfl
@[simp] theorem handOff_byteIdx (F : Frame) : (handOff F s).byteIdx = s.byteIdx := rfl
@[simp] theorem handOff_bitIdx (F : Frame) : (handOff F s).bitIdx = s.bitIdx := rfl
@[simp] theorem handOff_frame (F : Frame) : (handOff F s).frame = s.frame := rfl
@[simp] theorem handOff_tsHigh (F : Frame) : (handOff F s).tsHigh = s.tsHigh := rfl
@[simp] theorem handOff_done (F : Frame) : (handOff F s).done = s.done := rfl
@[simp] theorem handOff_orcPhase (F : Frame) : (handOff F s).orcPhase = .idle := rfl
@[simp] theorem handOff_phaseT0 (F : Frame) : (handOff F s).phaseT0 = s.phaseT0 := rfl
@[simp] theorem handOff_lineMode (F : Frame) : (handOff F s).lineMode = s.lineMode := rfl
@[simp] theorem handOff_now (F : Frame) : (handOff F s).now = s.now := rfl
@[simp] theorem handOff_rxFrame (F : Frame) : (handOff F s).rxFrame = some F := rfl
@[simp] theorem handOff_rdT (F : Frame) : (handOff F s).rdT = s.rdT := rfl
@[simp] theorem handOff_rdRh (F : Frame) : (handOff F s).rdRh = s.rdRh := rfl
@[simp] theorem handOff_prevValid (F : Frame) : (handOff F s).prevValid = s.prevValid := rfl
@[simp] theorem handOff_prevT (F : Frame) : (handOff F s).prevT = s.prevT := rfl
@[simp] theorem handOff_prevRh (F : Frame) : (handOff F s).prevRh = s.prevRh := rfl
@[simp] theorem handOff_attempts (F : Frame) : (handOff F s).attempts = s.attempts := rfl
@[simp] theorem handOff_accepted (F : Frame) : (handOff F s).accepted = s.accepted := rfl
@[simp] theorem handOff_lastStatus (F : Frame) : (handOff F s).lastStatus = s.lastStatus := rfl
@[simp] theorem handOff_schState (F : Frame) : (handOff F s).schState = s.schState := rfl
@[simp] theorem handOff_remaining (F : Frame) : (handOff F s).remaining = s.remaining := rfl
@[simp] theorem handOff_stopReq (F : Frame) : (handOff F s).stopReq = s.stopReq := rfl
@[simp] theorem handOff_log (F : Frame) : (handOff F s).log = s.log := rfl
@[simp] theorem handOff_faultMark (F : Frame) : (handOff F s).faultMark = s.faultMark := rfl
@[simp] theorem handOff_refusalMark (F : Frame) : (handOff F s).refusalMark = s.refusalMark := rfl
@[simp] theorem handOff_cfg (F : Frame) : (handOff F s).cfg = s.cfg := rfl
@[simp] theorem handOff_stimuli (F : Frame) : (handOff F s).stimuli = s.stimuli := rfl

/-! ## `setBaseline` -/

@[simp] theorem setBaseline_decState (t rh : Int) : (setBaseline t rh s).decState = s.decState := rfl
@[simp] theorem setBaseline_byteIdx (t rh : Int) : (setBaseline t rh s).byteIdx = s.byteIdx := rfl
@[simp] theorem setBaseline_bitIdx (t rh : Int) : (setBaseline t rh s).bitIdx = s.bitIdx := rfl
@[simp] theorem setBaseline_frame (t rh : Int) : (setBaseline t rh s).frame = s.frame := rfl
@[simp] theorem setBaseline_tsHigh (t rh : Int) : (setBaseline t rh s).tsHigh = s.tsHigh := rfl
@[simp] theorem setBaseline_done (t rh : Int) : (setBaseline t rh s).done = s.done := rfl
@[simp] theorem setBaseline_orcPhase (t rh : Int) : (setBaseline t rh s).orcPhase = s.orcPhase := rfl
@[simp] theorem setBaseline_phaseT0 (t rh : Int) : (setBaseline t rh s).phaseT0 = s.phaseT0 := rfl
@[simp] theorem setBaseline_lineMode (t rh : Int) : (setBaseline t rh s).lineMode = s.lineMode := rfl
@[simp] theorem setBaseline_now (t rh : Int) : (setBaseline t rh s).now = s.now := rfl
@[simp] theorem setBaseline_rxFrame (t rh : Int) : (setBaseline t rh s).rxFrame = s.rxFrame := rfl
@[simp] theorem setBaseline_rdT (t rh : Int) : (setBaseline t rh s).rdT = s.rdT := rfl
@[simp] theorem setBaseline_rdRh (t rh : Int) : (setBaseline t rh s).rdRh = s.rdRh := rfl
@[simp] theorem setBaseline_prevValid (t rh : Int) : (setBaseline t rh s).prevValid = true := rfl
@[simp] theorem setBaseline_prevT (t rh : Int) : (setBaseline t rh s).prevT = some (toTenths t) := rfl
@[simp] theorem setBaseline_prevRh (t rh : Int) : (setBaseline t rh s).prevRh = some (toTenths rh) := rfl
@[simp] theorem setBaseline_attempts (t rh : Int) : (setBaseline t rh s).attempts = s.attempts := rfl
@[simp] theorem setBaseline_accepted (t rh : Int) : (setBaseline t rh s).accepted = s.accepted := rfl
@[simp] theorem setBaseline_lastStatus (t rh : Int) : (setBaseline t rh s).lastStatus = s.lastStatus := rfl
@[simp] theorem setBaseline_schState (t rh : Int) : (setBaseline t rh s).schState = s.schState := rfl
@[simp] theorem setBaseline_remaining (t rh : Int) : (setBaseline t rh s).remaining = s.remaining := rfl
@[simp] theorem setBaseline_stopReq (t rh : Int) : (setBaseline t rh s).stopReq = s.stopReq := rfl
@[simp] theorem setBaseline_log (t rh : Int) : (setBaseline t rh s).log = s.log := rfl
@[simp] theorem setBaseline_faultMark (t rh : Int) : (setBaseline t rh s).faultMark = s.faultMark := rfl
@[simp] theorem setBaseline_refusalMark (t rh : Int) : (setBaseline t rh s).refusalMark = s.refusalMark := rfl
@[simp] theorem setBaseline_cfg (t rh : Int) : (setBaseline t rh s).cfg = s.cfg := rfl
@[simp] theorem setBaseline_stimuli (t rh : Int) : (setBaseline t rh s).stimuli = s.stimuli := rfl

/-! ## `acceptReading` -/

@[simp] theorem acceptReading_decState (t rh : Int) : (acceptReading t rh s).decState = s.decState := rfl
@[simp] theorem acceptReading_byteIdx (t rh : Int) : (acceptReading t rh s).byteIdx = s.byteIdx := rfl
@[simp] theorem acceptReading_bitIdx (t rh : Int) : (acceptReading t rh s).bitIdx = s.bitIdx := rfl
@[simp] theorem acceptReading_frame (t rh : Int) : (acceptReading t rh s).frame = s.frame := rfl
@[simp] theorem acceptReading_tsHigh (t rh : Int) : (acceptReading t rh s).tsHigh = s.tsHigh := rfl
@[simp] theorem acceptReading_done (t rh : Int) : (acceptReading t rh s).done = s.done := rfl
@[simp] theorem acceptReading_orcPhase (t rh : Int) : (acceptReading t rh s).orcPhase = s.orcPhase := rfl
@[simp] theorem acceptReading_phaseT0 (t rh : Int) : (acceptReading t rh s).phaseT0 = s.phaseT0 := rfl
@[simp] theorem acceptReading_lineMode (t rh : Int) : (acceptReading t rh s).lineMode = s.lineMode := rfl
@[simp] theorem acceptReading_now (t rh : Int) : (acceptReading t rh s).now = s.now := rfl
@[simp] theorem acceptReading_rxFrame (t rh : Int) : (acceptReading t rh s).rxFrame = s.rxFrame := rfl
@[simp] theorem acceptReading_rdT (t rh : Int) : (acceptReading t rh s).rdT = some (toTenths t) := rfl
@[simp] theorem acceptReading_rdRh (t rh : Int) : (acceptReading t rh s).rdRh = some (toTenths rh) := rfl
@[simp] theorem acceptReading_prevValid (t rh : Int) : (acceptReading t rh s).prevValid = s.prevValid := rfl
@[simp] theorem acceptReading_prevT (t rh : Int) : (acceptReading t rh s).prevT = s.prevT := rfl
@[simp] theorem acceptReading_prevRh (t rh : Int) : (acceptReading t rh s).prevRh = s.prevRh := rfl
@[simp] theorem acceptReading_attempts (t rh : Int) : (acceptReading t rh s).attempts = s.attempts := rfl
@[simp] theorem acceptReading_accepted (t rh : Int) : (acceptReading t rh s).accepted = satInc s.accepted := rfl
@[simp] theorem acceptReading_lastStatus (t rh : Int) : (acceptReading t rh s).lastStatus = s.lastStatus := rfl
@[simp] theorem acceptReading_schState (t rh : Int) : (acceptReading t rh s).schState = s.schState := rfl
@[simp] theorem acceptReading_remaining (t rh : Int) : (acceptReading t rh s).remaining = s.remaining := rfl
@[simp] theorem acceptReading_stopReq (t rh : Int) : (acceptReading t rh s).stopReq = s.stopReq := rfl
@[simp] theorem acceptReading_log (t rh : Int) : (acceptReading t rh s).log = s.log := rfl
@[simp] theorem acceptReading_faultMark (t rh : Int) : (acceptReading t rh s).faultMark = s.faultMark := rfl
@[simp] theorem acceptReading_refusalMark (t rh : Int) : (acceptReading t rh s).refusalMark = s.refusalMark := rfl
@[simp] theorem acceptReading_cfg (t rh : Int) : (acceptReading t rh s).cfg = s.cfg := rfl
@[simp] theorem acceptReading_stimuli (t rh : Int) : (acceptReading t rh s).stimuli = s.stimuli := rfl

/-! ## `resetRegisters` -/

@[simp] theorem resetRegisters_decState : (resetRegisters s).decState = .idle := rfl
@[simp] theorem resetRegisters_byteIdx : (resetRegisters s).byteIdx = 0 := rfl
@[simp] theorem resetRegisters_bitIdx : (resetRegisters s).bitIdx = 7 := rfl
@[simp] theorem resetRegisters_frame : (resetRegisters s).frame = none := rfl
@[simp] theorem resetRegisters_tsHigh : (resetRegisters s).tsHigh = none := rfl
@[simp] theorem resetRegisters_done : (resetRegisters s).done = false := rfl
@[simp] theorem resetRegisters_orcPhase : (resetRegisters s).orcPhase = .idle := rfl
@[simp] theorem resetRegisters_phaseT0 : (resetRegisters s).phaseT0 = none := rfl
@[simp] theorem resetRegisters_lineMode : (resetRegisters s).lineMode = .read := rfl
@[simp] theorem resetRegisters_now : (resetRegisters s).now = 0 := rfl
@[simp] theorem resetRegisters_rxFrame : (resetRegisters s).rxFrame = none := rfl
@[simp] theorem resetRegisters_rdT : (resetRegisters s).rdT = none := rfl
@[simp] theorem resetRegisters_rdRh : (resetRegisters s).rdRh = none := rfl
@[simp] theorem resetRegisters_prevValid : (resetRegisters s).prevValid = false := rfl
@[simp] theorem resetRegisters_prevT : (resetRegisters s).prevT = none := rfl
@[simp] theorem resetRegisters_prevRh : (resetRegisters s).prevRh = none := rfl
@[simp] theorem resetRegisters_attempts : (resetRegisters s).attempts = 0 := rfl
@[simp] theorem resetRegisters_accepted : (resetRegisters s).accepted = 0 := rfl
@[simp] theorem resetRegisters_lastStatus : (resetRegisters s).lastStatus = .none := rfl
@[simp] theorem resetRegisters_schState : (resetRegisters s).schState = .run := rfl
@[simp] theorem resetRegisters_remaining : (resetRegisters s).remaining = 0 := rfl
@[simp] theorem resetRegisters_stopReq : (resetRegisters s).stopReq = false := rfl
@[simp] theorem resetRegisters_log : (resetRegisters s).log = [] := rfl
@[simp] theorem resetRegisters_faultMark : (resetRegisters s).faultMark = s.faultMark := rfl
@[simp] theorem resetRegisters_refusalMark : (resetRegisters s).refusalMark = s.refusalMark := rfl
@[simp] theorem resetRegisters_cfg : (resetRegisters s).cfg = s.cfg := rfl
@[simp] theorem resetRegisters_stimuli : (resetRegisters s).stimuli = s.stimuli := rfl

end Sys2Proof.Machine
end

