-- ==== Sys2Proof/Laws/Ops.lean ====
section
/-! SUPPORT. For each shared operation, once, everything it can do: what it answers on which states. -/

namespace Sys2Proof.Machine

/-! ## Sequencing (R13, R150) -/

@[simp] theorem andThen_next (s : State) (k : State → Result) : andThen (.next s) k = k s := rfl
@[simp] theorem andThen_fault (f : Fault) (k : State → Result) : andThen (.fault f) k = .fault f := rfl
@[simp] theorem andThen_refused (x : Refusal) (k : State → Result) : andThen (.refused x) k = .refused x := rfl

theorem andThen_eq_next_iff {r : Result} {k : State → Result} {t : State} :
    andThen r k = .next t ↔ ∃ u, r = .next u ∧ k u = .next t := by
  cases r <;> simp

theorem andThen_eq_fault_iff {r : Result} {k : State → Result} {f : Fault} :
    andThen r k = .fault f ↔ r = .fault f ∨ ∃ u, r = .next u ∧ k u = .fault f := by
  cases r <;> simp

theorem guardReserved_of_legal {s : State} (h : s.Legal) (k : State → Result) : guardReserved s k = k s := by
  have h' : reservedFound s = none := h
  simp [guardReserved, h']

theorem guardReserved_eq_next_iff {s t : State} {k : State → Result} :
    guardReserved s k = .next t ↔ s.Legal ∧ k s = .next t := by
  unfold guardReserved State.Legal
  cases h : reservedFound s <;> simp

theorem settled_of_legal {s : State} (h : s.Legal) (lerr : Bool) (p : State → Result) :
    settled lerr p s = andThen (p (freshLog s)) (execOrcEval lerr) := guardReserved_of_legal h _

theorem settled_eq_next_iff {lerr : Bool} {p : State → Result} {s t : State} :
    settled lerr p s = .next t ↔ s.Legal ∧ ∃ u, p (freshLog s) = .next u ∧ execOrcEval lerr u = .next t := by
  simp [settled, guardReserved_eq_next_iff, andThen_eq_next_iff]

/-- A legal state holds no reserved code, register by register (R69). -/
theorem legal_iff {s : State} :
    s.Legal ↔ s.decState ≠ .reserved6 ∧ s.decState ≠ .reserved7 ∧ s.byteIdx.toNat < 6 ∧ s.lineMode ≠ .reserved3 ∧
      s.schState ≠ .reserved3 ∧ s.lastStatus ≠ .reserved7 := by
  unfold State.Legal reservedFound
  rcases s with ⟨⟨d, b, i, f, ts, dn, o, p0, l, n, rx, rt, rr, pv, pt, pr, at', ac, st, m, rest⟩, c, w⟩
  simp only
  split_ifs <;> simp_all
  tauto

/-! ## Values (R12, R34, R51, R52) -/

theorem satInc_toNat (c : Count) : (satInc c).toNat = min (c.toNat + 1) (2 ^ 32 - 1) := by
  simp [satInc, satN, zext, BitVec.toNat_ofNat]

theorem le_satInc (c : Count) : c.toNat ≤ (satInc c).toNat := by
  rw [satInc_toNat]; have := c.isLt; omega

theorem one_le_satInc (c : Count) : 1 ≤ (satInc c).toNat := by
  rw [satInc_toNat]; omega

theorem elapsed_eq (a b : Time) : elapsed a b = (a.toNat + (2 ^ 32 - b.toNat)) % 2 ^ 32 := by
  simp [elapsed, wrapsub, zext, BitVec.toNat_sub, Nat.add_comm]

@[simp] theorem elapsed_self (a : Time) : elapsed a a = 0 := by simp [elapsed, wrapsub, zext]

theorem holdOver_iff {now t0 : Time} {bound : Nat} : holdOver now t0 bound = true ↔ bound ≤ elapsed now t0 := by
  simp [holdOver]

/-- A phase entered in this step is not over in it, since every bound is positive (R112, R193). -/
theorem holdOver_self {now : Time} {bound : Nat} (h : 0 < bound) : holdOver now now bound = false := by
  simp [holdOver]; omega

theorem lineResult_err_iff {log : List LogEntry} {lerr release : Bool} :
    lineResult log lerr release = .err ↔ lerr = true ∧ log = [] ∧ release = false := by
  cases lerr <;> cases release <;> cases log <;> simp [lineResult]

@[simp] theorem lineResult_false (log : List LogEntry) (release : Bool) : lineResult log false release = .ok := by
  simp [lineResult]

@[simp] theorem lineResult_release (log : List LogEntry) (lerr : Bool) : lineResult log lerr true = .ok := by
  simp [lineResult]

theorem cursorBit_lt {b i : BitVec 3} : cursorBit b i < 40 := by
  have := i.isLt; unfold cursorBit; omega

/-- FrameSetBit sets the cursor's bit and leaves every other bit alone (R13, R54). -/
theorem frameSetBit_getLsbD (F : Frame) (b i : BitVec 3) (n : Nat) :
    (frameSetBit F b i).getLsbD n = (F.getLsbD n || decide (n = cursorBit b i)) := by
  have h := @cursorBit_lt b i
  unfold frameSetBit
  rw [BitVec.getLsbD_or, BitVec.getLsbD_shiftLeft]
  by_cases hn : n = cursorBit b i
  · subst hn; simp [h]
  · have : ((1#40).getLsbD (n - cursorBit b i)) = decide (n - cursorBit b i = 0) := by
      simp [BitVec.getLsbD_one]
    rw [this]
    by_cases hlt : n < cursorBit b i
    · simp [hn, hlt]
    · have : n - cursorBit b i ≠ 0 := by omega
      simp [hn, this]

/-- Reading a byte after writing it gives the value written (R13, R50). -/
theorem frameByte_write_same (F : Frame) {k : Nat} (h : k < 5) (v : BitVec 8) :
    frameByte (frameWriteByte F k v) k = v := by
  apply BitVec.eq_of_getLsbD_eq
  intro i hi
  have hm : (0xFF#40).getLsbD i = true := by interval_cases i <;> decide
  simp [frameByte, frameWriteByte, hi, hm, show 32 - 8 * k + i < 40 by omega]

/-- Writing a byte leaves the other bytes alone (R13, R50). -/
theorem frameByte_write_other (F : Frame) {k j : Nat} (hk : k < 5) (hj : j < 5) (hne : j ≠ k) (v : BitVec 8) :
    frameByte (frameWriteByte F k v) j = frameByte F j := by
  apply BitVec.eq_of_getLsbD_eq
  intro i hi
  interval_cases k <;> interval_cases j <;> first
    | exact absurd rfl hne
    | interval_cases i <;> simp [frameByte, frameWriteByte]

/-! ## The Edge Decoder (R98, R99) -/

/-- What the bit store can answer: a short pulse changes nothing; a long one, in the frame, sets the cursor's bit, and where the
frame holds no value the other bits are `U`'s. -/
theorem storeBit_eq_next_iff {long : Bool} {U : Frame} {s t : State} :
    storeBit long U s = .next t ↔
      (long = false ∧ t = s) ∨
      (long = true ∧ s.byteIdx.toNat ≤ 4 ∧
        t = { s with frame := some (frameSetBit (s.frame.getD U) s.byteIdx s.bitIdx) }) := by
  unfold storeBit
  cases long
  · simp [eq_comm]
  · by_cases h : 4 < s.byteIdx.toNat
    · simp [h]
    · simp [h, eq_comm]
      exact fun _ => by omega

/-- What the cursor's advance can answer: the next bit of the same byte, the next byte, or completion (R98, R99). -/
theorem advanceCursor_eq_next {s t : State} (h : advanceCursor s = .next t) :
    (s.bitIdx ≠ 0 ∧ s.byteIdx.toNat < 5 ∧
      t = { s with bitIdx := s.bitIdx - 1, decState := .awaitingBitHigh }) ∨
    (s.bitIdx = 0 ∧ s.byteIdx.toNat < 4 ∧
      t = { s with byteIdx := BitVec.ofNat 3 (s.byteIdx.toNat + 1), bitIdx := 7, decState := .awaitingBitHigh }) ∨
    (s.bitIdx = 0 ∧ s.byteIdx.toNat = 4 ∧
      t = { s with byteIdx := 5, bitIdx := 7, decState := .idle, done := true }) ∨
    (s.bitIdx ≠ 0 ∧ s.byteIdx.toNat = 5 ∧
      t = { s with byteIdx := 5, bitIdx := s.bitIdx - 1, decState := .idle, done := true }) := by
  unfold advanceCursor execDecComplete completeFrame at h
  by_cases hb : s.bitIdx = 0
  · simp only [hb, if_true] at h
    split_ifs at h with h1 h2
    · simp only [Host.Outcome.next.injEq] at h
      exact .inr (.inr (.inl ⟨hb, by omega, h.symm⟩))
    · simp only [Host.Outcome.next.injEq] at h
      exact .inr (.inl ⟨hb, by omega, h.symm⟩)
  · simp only [hb, if_false] at h
    split_ifs at h with h1 h2
    · simp only [Host.Outcome.next.injEq] at h
      exact .inr (.inr (.inr ⟨hb, h2, h.symm⟩))
    · simp only [Host.Outcome.next.injEq] at h
      refine .inl ⟨hb, by omega, ?_⟩
      rw [← h]; simp

/-- What the falling edge can answer: it stores or leaves the cursor's bit, then advances the cursor (R98). -/
theorem execDecAwaitBitFallL0_eq_next {ts : Time} {s t : State} (h : execDecAwaitBitFallL0 ts s = .next t) :
    ∃ t0, s.tsHigh = some t0 ∧
      ((longPulse s.cfg ts t0 = false ∧ advanceCursor s = .next t) ∨
        (longPulse s.cfg ts t0 = true ∧ s.byteIdx.toNat ≤ 4 ∧
          ∃ F, (∀ G, s.frame = some G → F = G) ∧
            advanceCursor { s with frame := some (frameSetBit F s.byteIdx s.bitIdx) } = .next t)) := by
  unfold execDecAwaitBitFallL0 at h
  cases ht : s.tsHigh with
  | none => simp [ht] at h
  | some t0 =>
    simp only [ht, andThen_eq_next_iff, storeBit_eq_next_iff] at h
    obtain ⟨u, ⟨hl, rfl⟩ | ⟨hl, hb, rfl⟩, h⟩ := h
    · exact ⟨t0, rfl, .inl ⟨hl, h⟩⟩
    · exact ⟨t0, rfl, .inr ⟨hl, hb, _, fun G hG => by simp [hG], h⟩⟩

/-! ## The Orchestrator (R111, R113, R115, R120) -/

theorem emitOrFail_ok {op : LineOp} {lerr : Bool} {s : State} (h : lerr = false ∨ s.log ≠ []) (k : State → State) :
    emitOrFail op lerr s k = k (emitLineOp op lerr false s) := by
  unfold emitOrFail
  have : lineResult s.log lerr false = .ok := by
    cases hr : lineResult s.log lerr false
    · rfl
    · rw [lineResult_err_iff] at hr; simp_all
  simp [this]

theorem emitOrFail_err {op : LineOp} {s : State} (h : s.log = []) (k : State → State) :
    emitOrFail op true s k = lineError (emitLineOp op true false s) := by
  unfold emitOrFail
  have : lineResult s.log true false = .err := lineResult_err_iff.mpr ⟨rfl, h, rfl⟩
  simp [this]

/-- The operation fails and R119 runs, or it does not and the rule goes on. -/
theorem emitOrFail_cases (op : LineOp) (lerr : Bool) (s : State) (k : State → State) :
    (lerr = true ∧ s.log = [] ∧ emitOrFail op lerr s k = lineError (emitLineOp op lerr false s)) ∨
    ((lerr = false ∨ s.log ≠ []) ∧ emitOrFail op lerr s k = k (emitLineOp op lerr false s)) := by
  by_cases h : lerr = true ∧ s.log = []
  · obtain ⟨rfl, h⟩ := h
    exact .inl ⟨rfl, h, emitOrFail_err h k⟩
  · have h' : lerr = false ∨ s.log ≠ [] := by cases lerr <;> simp_all
    exact .inr ⟨h', emitOrFail_ok h' k⟩

/-- TXN_START with its one line operation succeeding, or failing (R111, R119, R120). -/
theorem startTransaction_cases (lerr : Bool) (s : State) :
    (lerr = true ∧ s.log = [] ∧ startTransaction lerr s =
      lineError { s with attempts := satInc s.attempts, log := [(.driveHigh, .err)] }) ∨
    ((lerr = false ∨ s.log ≠ []) ∧ startTransaction lerr s =
      { s with attempts := satInc s.attempts, log := s.log ++ [(.driveHigh, .ok)], lineMode := .high, orcPhase := .wake,
               phaseT0 := some s.now }) := by
  unfold startTransaction emitOrFail emitLineOp lineResult
  cases lerr <;> cases h : s.log <;> simp

/-- The end of the wake hold with its one line operation succeeding, or failing (R113, R119, R120). -/
theorem endWakeHold_cases (lerr : Bool) (s : State) :
    (lerr = true ∧ s.log = [] ∧ endWakeHold lerr s = lineError { s with log := [(.driveLow, .err)] }) ∨
    ((lerr = false ∨ s.log ≠ []) ∧ endWakeHold lerr s =
      { s with log := s.log ++ [(.driveLow, .ok)], lineMode := .low, orcPhase := .start, phaseT0 := some s.now }) := by
  unfold endWakeHold emitOrFail emitLineOp lineResult
  cases lerr <;> cases h : s.log <;> simp

/-- The end of the start hold with its first line operation succeeding, or failing; its second never fails, not being the
step's first (R115, R119, R120). -/
theorem endStartHold_cases (lerr : Bool) (s : State) :
    (lerr = true ∧ s.log = [] ∧ endStartHold lerr s = lineError { s with log := [(.driveHigh, .err)] }) ∨
    ((lerr = false ∨ s.log ≠ []) ∧ endStartHold lerr s =
      { armDecoder s with log := s.log ++ [(.driveHigh, .ok), (.readMode, .ok)], lineMode := .read, orcPhase := .wait,
                          phaseT0 := some s.now }) := by
  unfold endStartHold emitOrFail emitLineOp lineResult armDecoder
  cases lerr <;> cases h : s.log <;> simp

/-! ## The Validator (R130) -/

/-- What VALIDATE's decision can be, and on which states. -/
theorem judge_eq_ok {s : State} {v : Verdict} (h : judge s = .ok v) :
    ∃ F, s.rxFrame = some F ∧
      ((checksumOk F = false ∧ v = .checksumError) ∨
        (checksumOk F = true ∧
          ((s.prevValid = true ∧ v = .plausibilityError (temperature F) (humidity F)) ∨
            v = acceptance (temperature F) (humidity F) s))) := by
  unfold judge at h
  cases hF : s.rxFrame with
  | none => simp [hF] at h
  | some F =>
    refine ⟨F, rfl, ?_⟩
    rw [hF] at h
    cases hc : checksumOk F
    · exact .inl ⟨rfl, by simpa [hc, eq_comm] using h⟩
    · refine .inr ⟨rfl, ?_⟩
      cases hp : s.prevValid
      · right; simpa [hc, hp, eq_comm] using h
      · cases ht : s.prevT <;> cases hr : s.prevRh <;> simp [hc, hp, ht, hr] at h
        split_ifs at h
        · left; simp_all
        · right; simp_all

/-- A frame and, where there is a baseline, its two values are all that VALIDATE reads (R48, R130). -/
theorem judge_complete {s : State} (hF : s.rxFrame.isSome = true)
    (hp : s.prevValid = true → s.prevT.isSome = true ∧ s.prevRh.isSome = true) : ∃ v, judge s = .ok v := by
  obtain ⟨F, hF⟩ := Option.isSome_iff_exists.mp hF
  unfold judge
  simp only [hF]
  cases hc : checksumOk F
  · simp
  · cases hv : s.prevValid
    · simp
    · obtain ⟨h1, h2⟩ := hp hv
      obtain ⟨pt, h1⟩ := Option.isSome_iff_exists.mp h1
      obtain ⟨prh, h2⟩ := Option.isSome_iff_exists.mp h2
      simp only [h1, h2, if_true]
      split_ifs <;> simp

/-! ## The evaluation and the TICK arms (R112, R78) -/

/-- What ORC_EVAL can answer: the phase's hold or timeout is not over and nothing changes, or the phase ends, by its hold, by
a handed-over frame, or by the timeout (R112 to R117). -/
theorem execOrcEval_eq_next {lerr : Bool} {s t : State} (h : execOrcEval lerr s = .next t) :
    (t = s ∧ (s.orcPhase = .idle ∨ ∃ t0, s.phaseT0 = some t0 ∧
      (s.orcPhase = .wake ∧ elapsed s.now t0 < s.cfg.tWakeUs ∨ s.orcPhase = .start ∧ elapsed s.now t0 < s.cfg.tStartUs ∨
        s.orcPhase = .wait ∧ s.done = false ∧ elapsed s.now t0 < s.cfg.tTimeoutUs))) ∨
    (∃ t0, s.orcPhase = .wake ∧ s.phaseT0 = some t0 ∧ s.cfg.tWakeUs ≤ elapsed s.now t0 ∧ t = endWakeHold lerr s) ∨
    (∃ t0, s.orcPhase = .start ∧ s.phaseT0 = some t0 ∧ s.cfg.tStartUs ≤ elapsed s.now t0 ∧ t = endStartHold lerr s) ∨
    (∃ F v, s.orcPhase = .wait ∧ s.done = true ∧ s.frame = some F ∧ judge (handOff F s) = .ok v ∧
      t = endTransaction (verdictOutcome v) (applyVerdict v (handOff F s))) ∨
    (∃ t0, s.orcPhase = .wait ∧ s.done = false ∧ s.phaseT0 = some t0 ∧ s.cfg.tTimeoutUs ≤ elapsed s.now t0 ∧
      t = timeoutError s) := by
  unfold execOrcEval at h
  cases hp : s.orcPhase with
  | idle =>
    simp only [hp, execOrcIdle, Host.Outcome.next.injEq] at h
    exact .inl ⟨h.symm, .inl rfl⟩
  | wake =>
    cases ht : s.phaseT0 with
    | none => simp [hp, execOrcWake, ht] at h
    | some t0 =>
      simp only [hp, execOrcWake, ht] at h
      split_ifs at h with hh <;> rw [holdOver_iff] at hh <;> simp only [Host.Outcome.next.injEq] at h
      · exact .inr (.inl ⟨t0, rfl, rfl, hh, h.symm⟩)
      · exact .inl ⟨h.symm, .inr ⟨t0, rfl, .inl ⟨rfl, Nat.not_le.mp hh⟩⟩⟩
  | start =>
    cases ht : s.phaseT0 with
    | none => simp [hp, execOrcStart, ht] at h
    | some t0 =>
      simp only [hp, execOrcStart, ht] at h
      split_ifs at h with hh <;> rw [holdOver_iff] at hh <;> simp only [Host.Outcome.next.injEq] at h
      · exact .inr (.inr (.inl ⟨t0, rfl, rfl, hh, h.symm⟩))
      · exact .inl ⟨h.symm, .inr ⟨t0, rfl, .inr (.inl ⟨rfl, Nat.not_le.mp hh⟩)⟩⟩
  | wait =>
    simp only [hp, execOrcWait] at h
    cases hd : s.done with
    | true =>
      cases hF : s.frame with
      | none => simp [hd, execTxnComplete, hF] at h
      | some F =>
        cases hj : judge (handOff F s) with
        | error f => simp [hd, execTxnComplete, hF, concludeFrame, hj] at h
        | ok v =>
          simp only [hd, execTxnComplete, hF, concludeFrame, hj, if_true, Host.Outcome.next.injEq] at h
          exact .inr (.inr (.inr (.inl ⟨F, v, rfl, rfl, rfl, hj, h.symm⟩)))
    | false =>
      cases ht : s.phaseT0 with
      | none => simp [hd, ht] at h
      | some t0 =>
        simp only [hd, ht, Bool.false_eq_true, if_false, execTxnTimeout] at h
        split_ifs at h with hh <;> rw [holdOver_iff] at hh <;> simp only [Host.Outcome.next.injEq] at h
        · exact .inr (.inr (.inr (.inr ⟨t0, rfl, rfl, rfl, hh, h.symm⟩)))
        · exact .inl ⟨h.symm, .inr ⟨t0, rfl, .inr (.inr ⟨rfl, rfl, Nat.not_le.mp hh⟩)⟩⟩

/-- What the TICK arms can answer (R151 to R153, R162). -/
theorem tickArm_eq_next {lerr : Bool} {s t : State} (h : tickArm lerr s = .next t) :
    (s.schState = .run ∧ s.remaining = 0 ∧ t = startTransaction lerr { s with schState := .busy }) ∨
    (s.schState = .run ∧ s.remaining ≠ 0 ∧ t = { s with remaining := s.remaining - 1 }) ∨
    ((s.schState = .busy ∨ s.schState = .stopped) ∧ t = s) := by
  unfold tickArm execTickStart execTxnStart execTickCountdown execTickBusy execTickStopped execTickReserved at h
  cases hs : s.schState <;> simp only [hs, Host.Outcome.next.injEq, reduceCtorEq] at h
  · split_ifs at h with hr <;> simp only [Host.Outcome.next.injEq] at h
    · exact .inl ⟨rfl, hr, h.symm⟩
    · exact .inr (.inl ⟨rfl, hr, h.symm⟩)
  · exact .inr (.inr ⟨.inl rfl, h.symm⟩)
  · exact .inr (.inr ⟨.inr rfl, h.symm⟩)

/-! ## Fetching (R57) and the step -/

/-- What a word can decode to: one of the five stimuli, or REFUSED of that word (R73, R74). -/
theorem decodeStim_cases (w : StimWord) :
    (∃ ts level, decodeStim w = .trans ts level) ∨ (∃ t lerr, decodeStim w = .time t lerr) ∨
      (∃ lerr, decodeStim w = .tick lerr) ∨ decodeStim w = .stop ∨ decodeStim w = .reset ∨ decodeStim w = .refused w := by
  unfold decodeStim
  split
  · simp
  · split <;> (try split) <;> simp

/-- STEP performs its word's stimulus, refused words included (R150). -/
theorem execStep_eq (w : StimWord) (s : State) : execStep w s = exec (decodeStim w) s := by
  unfold execStep
  rcases decodeStim_cases w with ⟨ts, l, h⟩ | ⟨t, l, h⟩ | ⟨l, h⟩ | h | h | h <;> simp only [h] <;> rfl

theorem step_of_stimulus {s : State} {w : StimWord} {ws : List StimWord} (h : s.stimuli = w :: ws) :
    step s = exec (decodeStim w) { s with stimuli := ws } := by
  simp [step, fetchStimulus, h, decode]

theorem step_of_none {s : State} (h : s.stimuli = []) : step s = .refused .noStimulus := by
  simp [step, fetchStimulus, h]

/-- What a step can do: it performs the first delivered word. -/
theorem step_eq_next_iff {s t : State} :
    step s = .next t ↔ ∃ w ws, s.stimuli = w :: ws ∧ exec (decodeStim w) { s with stimuli := ws } = .next t := by
  cases h : s.stimuli with
  | nil => simp [step_of_none h]
  | cons w ws => simp [step_of_stimulus h]

theorem andThen_assoc (r : Result) (k k' : State → Result) :
    andThen (andThen r k) k' = andThen r fun s => andThen (k s) k' := by
  cases r <;> rfl

end Sys2Proof.Machine
end

