-- ==== Sys2Proof/Laws/PerInstr.lean ====
section
/-! SUPPORT. The family TableRow: for each constructor, the word or key that `encode` writes agrees with its row of
spec/opcode_table.json, whose `match` and `mask` are copied here row by row. -/

namespace Sys2Proof.Laws

/-- A row's `format`, `mask` and `match` in spec/opcode_table.json. -/
inductive Row where
  | stim (mask value : StimWord)
  | refused
  | dec (mask value : BitVec 4)
  | orc (mask value : BitVec 2)
  | tick (mask value : BitVec 3)
  | noWord

/-- The table's row of each constructor. -/
def rowOf : Instr → Row
  | .trans _ _ => .stim 0xFE00000000 0x1000000000
  | .time _ _ => .stim 0xFD00000000 0x2000000000
  | .tick _ => .stim 0xFDFFFFFFFF 0x3000000000
  | .stop => .stim 0xFFFFFFFFFF 0x4000000000
  | .reset => .stim 0xFFFFFFFFFF 0x5000000000
  | .refused _ => .refused
  | .decAwaitLowL0 => .dec 0xF 0x0
  | .decAwaitLowL1 => .dec 0xF 0x1
  | .decAwaitHighL0 => .dec 0xF 0x2
  | .decAwaitHighL1 => .dec 0xF 0x3
  | .decAwaitBitLowL0 => .dec 0xF 0x4
  | .decAwaitBitLowL1 => .dec 0xF 0x5
  | .decAwaitBitHighL0 => .dec 0xF 0x6
  | .decAwaitBitHighL1 _ => .dec 0xF 0x7
  | .decAwaitBitFallL0 _ => .dec 0xF 0x8
  | .decAwaitBitFallL1 => .dec 0xF 0x9
  | .decIdle _ => .dec 0xE 0xA
  | .decReserved _ _ => .dec 0xC 0xC
  | .decComplete => .dec 0xF 0x8
  | .orcIdle => .orc 0x3 0x0
  | .orcWake _ => .orc 0x3 0x1
  | .orcStart _ => .orc 0x3 0x2
  | .orcWait => .orc 0x3 0x3
  | .tickCountdown => .tick 0x7 0x0
  | .tickStart _ => .tick 0x7 0x1
  | .tickBusy _ => .tick 0x6 0x2
  | .tickStopped _ => .tick 0x6 0x4
  | .tickReserved _ => .tick 0x6 0x6
  | .step _ => .noWord
  | .orcEval _ => .noWord
  | .arm => .noWord
  | .txnStart _ => .noWord
  | .txnComplete => .noWord
  | .txnTimeout => .noWord
  | .txnLineError => .noWord
  | .lineOp _ _ _ => .noWord
  | .validate => .noWord
  | .txnEnd _ => .noWord

/-- The masks and matches of the five stimuli (R73). -/
def stimRows : List (StimWord × StimWord) :=
  [(0xFE00000000, 0x1000000000),
    (0xFD00000000, 0x2000000000),
    (0xFDFFFFFFFF, 0x3000000000),
    (0xFFFFFFFFFF, 0x4000000000),
    (0xFFFFFFFFFF, 0x5000000000)]

/-- A code agrees with a row: it is of the row's format and has the row's `match` under its `mask`. -/
def agrees : Row → Option Code → Prop
  | .stim mask value, some (.stim w) => w &&& mask = value
  | .refused, some (.stim w) => ∀ r ∈ stimRows, w &&& r.1 ≠ r.2
  | .dec mask value, some (.dec key _ _) => key &&& mask = value
  | .orc mask value, some (.orc key _) => key &&& mask = value
  | .tick mask value, some (.tick key _) => key &&& mask = value
  | .noWord, none => True
  | _, _ => False

/-- The encoding of a well-formed instruction agrees with its row of the opcode table. -/
def TableRow.Statement (i : Instr) : Prop := i.WellFormed = true → agrees (rowOf i) (encode i)

theorem stimWord_getLsbD (kind : BitVec 4) (lerr level : Bool) (value : BitVec 32) (i : Nat) :
    (stimWord kind lerr level value).getLsbD i =
      if i < 32 then value.getLsbD i
      else if i = 32 then level
      else if i = 33 then lerr
      else if i < 36 then false
      else kind.getLsbD (i - 36) := by
  unfold stimWord
  rw [BitVec.getLsbD_append, BitVec.getLsbD_append, BitVec.getLsbD_append, BitVec.getLsbD_append]
  by_cases h1 : i < 32
  · simp only [h1, if_true]
  by_cases h2 : i = 32
  · subst h2; simp
  by_cases h3 : i = 33
  · subst h3; simp
  by_cases h4 : i < 36
  · simp only [h1, h2, h3, h4, show ¬ i - 32 < 1 by omega, show ¬ i - 32 - 1 < 1 by omega,
      show i - 32 - 1 - 1 < 2 by omega, if_true, if_false]
    exact BitVec.getLsbD_zero
  · simp only [h1, h2, h3, h4, show ¬ i - 32 < 1 by omega, show ¬ i - 32 - 1 < 1 by omega,
      show ¬ i - 32 - 1 - 1 < 2 by omega, if_false]
    rfl

/-- A match under a mask fixes the mask's bits. -/
theorem getLsbD_of_match {w m v : StimWord} (h : w &&& m = v) {i : Nat} (hi : m.getLsbD i = true) :
    w.getLsbD i = v.getLsbD i := by
  rw [← h, BitVec.getLsbD_and, hi, Bool.and_true]

/-- A word that matches a stimulus row spells a stimulus (R74). -/
theorem spells_of_match {w : StimWord} {r : StimWord × StimWord} (hr : r ∈ stimRows) (h : w &&& r.1 = r.2) :
    spellsNothing w = false := by
  have bits : ∀ i, r.1.getLsbD i = true → w.getLsbD i = r.2.getLsbD i := fun i => getLsbD_of_match h
  have kind : w >>> 36 = r.2 >>> 36 := by
    apply BitVec.eq_of_getLsbD_eq
    intro i hi
    rw [BitVec.getLsbD_ushiftRight, BitVec.getLsbD_ushiftRight]
    by_cases h4 : i < 4
    · apply bits
      simp only [stimRows, List.mem_cons, List.not_mem_nil, or_false] at hr
      interval_cases i <;> rcases hr with rfl | rfl | rfl | rfl | rfl <;> decide
    · rw [BitVec.getLsbD_of_ge w _ (by omega), BitVec.getLsbD_of_ge r.2 _ (by omega)]
  have value : (r.2 >>> 36).toNat ∈ [3, 4, 5] → w.toNat % 2 ^ 32 = 0 := by
    intro hk
    have : w.setWidth 32 = 0#32 := by
      apply BitVec.eq_of_getLsbD_eq
      intro i hi
      rw [BitVec.getLsbD_setWidth]
      have : w.getLsbD i = r.2.getLsbD i := by
        apply bits
        simp only [stimRows, List.mem_cons, List.not_mem_nil, or_false] at hr
        rcases hr with rfl | rfl | rfl | rfl | rfl <;> first | exact absurd hk (by decide) | (interval_cases i <;> decide)
      rw [this]
      simp only [stimRows, List.mem_cons, List.not_mem_nil, or_false] at hr
      rcases hr with rfl | rfl | rfl | rfl | rfl <;> first | exact absurd hk (by decide) | (interval_cases i <;> decide)
    simpa using congrArg BitVec.toNat this
  unfold spellsNothing
  simp only [kind]
  simp only [stimRows, List.mem_cons, List.not_mem_nil, or_false] at hr
  rcases hr with rfl | rfl | rfl | rfl | rfl
  · rw [bits 33 (by decide), bits 34 (by decide), bits 35 (by decide)]; simp
  · rw [bits 32 (by decide), bits 34 (by decide), bits 35 (by decide)]; simp
  · rw [bits 32 (by decide), bits 34 (by decide), bits 35 (by decide), value (by decide)]; simp
  · rw [bits 32 (by decide), bits 33 (by decide), bits 34 (by decide), bits 35 (by decide), value (by decide)]; simp
  · rw [bits 32 (by decide), bits 33 (by decide), bits 34 (by decide), bits 35 (by decide), value (by decide)]; simp

/-- The masked word, bit by bit. -/
theorem stimWord_match {kind : BitVec 4} {lerr level : Bool} {value : BitVec 32} {m v : StimWord}
    (h : ∀ i < 40, ((stimWord kind lerr level value).getLsbD i && m.getLsbD i) = v.getLsbD i) :
    stimWord kind lerr level value &&& m = v :=
  BitVec.eq_of_getLsbD_eq fun i hi => by rw [BitVec.getLsbD_and]; exact h i hi

theorem TableRow.trans (ts : Time) (level : Bool) : TableRow.Statement (.trans ts level) := fun _ => by
  apply stimWord_match
  intro i hi
  rw [stimWord_getLsbD]
  interval_cases i <;> simp

theorem TableRow.time (t : Time) (lerr : Bool) : TableRow.Statement (.time t lerr) := fun _ => by
  apply stimWord_match
  intro i hi
  rw [stimWord_getLsbD]
  interval_cases i <;> simp

theorem TableRow.tick (lerr : Bool) : TableRow.Statement (.tick lerr) := fun _ => by
  apply stimWord_match
  intro i hi
  rw [stimWord_getLsbD]
  interval_cases i <;> simp

theorem TableRow.stop : TableRow.Statement (.stop) := fun _ => by
  show _ &&& _ = _
  decide

theorem TableRow.reset : TableRow.Statement (.reset) := fun _ => by
  show _ &&& _ = _
  decide

theorem TableRow.refused (w : StimWord) : TableRow.Statement (.refused w) := fun h r hr hm => by
  have := spells_of_match hr hm
  simp only [Instr.WellFormed] at h
  simp_all

theorem TableRow.decAwaitLowL0 : TableRow.Statement (.decAwaitLowL0) := fun _ => by
  show _ &&& _ = _
  decide

theorem TableRow.decAwaitLowL1 : TableRow.Statement (.decAwaitLowL1) := fun _ => by
  show _ &&& _ = _
  decide

theorem TableRow.decAwaitHighL0 : TableRow.Statement (.decAwaitHighL0) := fun _ => by
  show _ &&& _ = _
  decide

theorem TableRow.decAwaitHighL1 : TableRow.Statement (.decAwaitHighL1) := fun _ => by
  show _ &&& _ = _
  decide

theorem TableRow.decAwaitBitLowL0 : TableRow.Statement (.decAwaitBitLowL0) := fun _ => by
  show _ &&& _ = _
  decide

theorem TableRow.decAwaitBitLowL1 : TableRow.Statement (.decAwaitBitLowL1) := fun _ => by
  show _ &&& _ = _
  decide

theorem TableRow.decAwaitBitHighL0 : TableRow.Statement (.decAwaitBitHighL0) := fun _ => by
  show _ &&& _ = _
  decide

theorem TableRow.decAwaitBitHighL1 (ts : Time) : TableRow.Statement (.decAwaitBitHighL1 ts) := fun _ => by
  show _ &&& _ = _
  decide

theorem TableRow.decAwaitBitFallL0 (ts : Time) : TableRow.Statement (.decAwaitBitFallL0 ts) := fun _ => by
  show _ &&& _ = _
  decide

theorem TableRow.decAwaitBitFallL1 : TableRow.Statement (.decAwaitBitFallL1) := fun _ => by
  show _ &&& _ = _
  decide

theorem TableRow.decIdle (level : Bool) : TableRow.Statement (.decIdle level) := fun _ => by
  show _ &&& _ = _
  cases level <;> decide

theorem TableRow.decReserved (code : BitVec 3) (level : Bool) : TableRow.Statement (.decReserved code level) := fun h => by
  have h' : code = 6 ∨ code = 7 := by simpa [Instr.WellFormed] using h
  show _ &&& _ = _
  rcases h' with rfl | rfl <;> cases level <;> decide

theorem TableRow.decComplete : TableRow.Statement (.decComplete) := fun _ => by
  show _ &&& _ = _
  decide

theorem TableRow.orcIdle : TableRow.Statement (.orcIdle) := fun _ => by
  show _ &&& _ = _
  decide

theorem TableRow.orcWake (lerr : Bool) : TableRow.Statement (.orcWake lerr) := fun _ => by
  show _ &&& _ = _
  decide

theorem TableRow.orcStart (lerr : Bool) : TableRow.Statement (.orcStart lerr) := fun _ => by
  show _ &&& _ = _
  decide

theorem TableRow.orcWait : TableRow.Statement (.orcWait) := fun _ => by
  show _ &&& _ = _
  decide

theorem TableRow.tickCountdown : TableRow.Statement (.tickCountdown) := fun _ => by
  show _ &&& _ = _
  decide

theorem TableRow.tickStart (lerr : Bool) : TableRow.Statement (.tickStart lerr) := fun _ => by
  show _ &&& _ = _
  decide

theorem TableRow.tickBusy (remZero : Bool) : TableRow.Statement (.tickBusy remZero) := fun _ => by
  show _ &&& _ = _
  cases remZero <;> decide

theorem TableRow.tickStopped (remZero : Bool) : TableRow.Statement (.tickStopped remZero) := fun _ => by
  show _ &&& _ = _
  cases remZero <;> decide

theorem TableRow.tickReserved (remZero : Bool) : TableRow.Statement (.tickReserved remZero) := fun _ => by
  show _ &&& _ = _
  cases remZero <;> decide

theorem TableRow.step (w : StimWord) : TableRow.Statement (.step w) := fun _ => trivial

theorem TableRow.orcEval (lerr : Bool) : TableRow.Statement (.orcEval lerr) := fun _ => trivial

theorem TableRow.arm : TableRow.Statement (.arm) := fun _ => trivial

theorem TableRow.txnStart (lerr : Bool) : TableRow.Statement (.txnStart lerr) := fun _ => trivial

theorem TableRow.txnComplete : TableRow.Statement (.txnComplete) := fun _ => trivial

theorem TableRow.txnTimeout : TableRow.Statement (.txnTimeout) := fun _ => trivial

theorem TableRow.txnLineError : TableRow.Statement (.txnLineError) := fun _ => trivial

theorem TableRow.lineOp (op : LineOp) (lerr : Bool) (release : Bool) : TableRow.Statement (.lineOp op lerr release) := fun _ => trivial

theorem TableRow.validate : TableRow.Statement (.validate) := fun _ => trivial

theorem TableRow.txnEnd (outcome : TxnOutcome) : TableRow.Statement (.txnEnd outcome) := fun _ => trivial

end Sys2Proof.Laws
end

