-- ==== Sys2Proof/Tests/Slice0.lean ====
section
/-! SUPPORT. The model's own tests. Expected values are those of spec/95_test_vectors.md, under TESTCFG (R10); a test names its
vector. After them, for every obligation with hypotheses, a state and operands that meet them together. -/

namespace Sys2Proof.Tests

open Sys2Proof Sys2Proof.Machine

/-! ## Small states -/

/-- The reset state under TESTCFG. -/
def rst : State := State.resetWith Config.testcfg

/-- A transaction in `O_WAKE`, begun at 0 (O1). -/
def waking : State :=
  { rst with orcPhase := .wake, phaseT0 := some 0, lineMode := .high, schState := .busy, attempts := 1 }

/-- `O_START`, begun at 2000 (O3). -/
def starting : State :=
  { waking with orcPhase := .start, phaseT0 := some 2000, lineMode := .low, now := 2000 }

/-- The vectors' "armed at 2800". -/
def armed : State :=
  { waking with decState := .awaitingLow, frame := some 0, orcPhase := .wait, phaseT0 := some 2800, lineMode := .read,
                now := 2800 }

/-- In the frame, a pulse begun at 3040, at a cursor (D10). -/
def falling (b i : BitVec 3) (F : Frame) : State :=
  { armed with decState := .awaitingBitFalling, tsHigh := some 3040, byteIdx := b, bitIdx := i, frame := some F }

/-- The same with no transaction in flight: the timeout has ended it. -/
def fallingIdle (b i : BitVec 3) : State :=
  { falling b i 0 with orcPhase := .idle, schState := .run, lastStatus := .timeout, remaining := 2 }

/-- `S_RUN` with the baseline and Reading of one acceptance (X3, V9), a complete frame in the decoder and the same handed
over. -/
def based (t rh : Tenths) (F : Frame) : State :=
  { rst with decState := .idle, byteIdx := 5, frame := some F, done := true, rxFrame := some F, rdT := some t, rdRh := some rh,
             prevValid := true, prevT := some t, prevRh := some rh, attempts := 1, accepted := 1,
             lastStatus := .acceptFirst, remaining := 1 }

/-- A frame handed over, no baseline (V1). -/
def fresh (F : Frame) : State := { rst with rxFrame := some F }

/-- Stopped. -/
def stoppedState : State := { rst with schState := .stopped, stopReq := true, remaining := 1 }

/-! ## WellFormed: each check refuses a term -/

theorem test_wf_refused_of_a_stimulus : (Instr.refused 0x3000000000).WellFormed = false := by decide
theorem test_wf_refused_of_no_stimulus : (Instr.refused 0x3000000001).WellFormed = true := by decide
theorem test_wf_reserved_of_a_legal_code : (Instr.decReserved 5 true).WellFormed = false := by decide
theorem test_wf_release_that_drives : (Instr.lineOp .driveHigh false true).WellFormed = false := by decide

/-! ## Decoding: words and keys written out from 30_encoding.md R72, R76 to R78 -/

-- KIND 0001, RSV 00, LERR 0, LEVEL 1, VALUE 2910 = 0xB5E
theorem test_decode_trans :
    decodeStim 0b0001_00_0_1_00000000000000000000101101011110 = .trans 2910 true := by decide
theorem test_decode_time :
    decodeStim 0b0010_00_1_0_00000000000000000000011111010000 = .time 2000 true := by decide
theorem test_decode_tick : decodeStim 0b0011_00_1_0_00000000000000000000000000000000 = .tick true := by decide
theorem test_decode_stop : decodeStim 0b0100_00_0_0_00000000000000000000000000000000 = .stop := by decide
theorem test_decode_reset : decodeStim 0b0101_00_0_0_00000000000000000000000000000000 = .reset := by decide

-- L2.1's ten refused words
theorem test_decode_refused :
    [0x0000000000, 0x6000000000, 0xF000000000, 0x1400000000, 0x1800000000, 0x1200000000, 0x4200000000, 0x2100000000,
      0x3000000001, 0x5000000001].all (fun w : StimWord => decodeStim w == .refused w) = true := by decide

-- dec_state in bits 3 to 1, level in bit 0
theorem test_decode_dec_keys :
    [0b000_0, 0b000_1, 0b001_0, 0b001_1, 0b010_0, 0b010_1, 0b011_0, 0b011_1].map (fun k => decodeDec k 7 false) =
      [.decAwaitLowL0, .decAwaitLowL1, .decAwaitHighL0, .decAwaitHighL1, .decAwaitBitLowL0, .decAwaitBitLowL1,
       .decAwaitBitHighL0, .decAwaitBitHighL1 7] := by decide
theorem test_decode_dec_keys_high :
    [0b100_0, 0b100_1, 0b101_0, 0b101_1, 0b110_0, 0b110_1, 0b111_0, 0b111_1].map (fun k => decodeDec k 7 false) =
      [.decAwaitBitFallL0 7, .decAwaitBitFallL1, .decIdle false, .decIdle true, .decReserved 6 false, .decReserved 6 true,
       .decReserved 7 false, .decReserved 7 true] := by decide
theorem test_decode_dec_complete : decodeDec 0b100_0 7 true = .decComplete := by decide
theorem test_decode_orc_keys :
    [0b00, 0b01, 0b10, 0b11].map (fun k => decodeOrc k true) = [.orcIdle, .orcWake true, .orcStart true, .orcWait] := by
  decide
-- sch_state in bits 2 and 1, (remaining = 0) in bit 0
theorem test_decode_tick_keys :
    [0b00_0, 0b00_1, 0b01_0, 0b01_1, 0b10_0, 0b10_1, 0b11_0, 0b11_1].map (fun k => decodeTick k true) =
      [.tickCountdown, .tickStart true, .tickBusy false, .tickBusy true, .tickStopped false, .tickStopped true,
       .tickReserved false, .tickReserved true] := by decide

/-- The host's question on a stimulus word and on a key, and the step that performs what is placed (log entries 4 and 5). -/
theorem test_placed_word_runs :
    decodeTableWord 40 0x2000000064 = some (.time 100 false) ∧ (nextState (step (rst.withFetchWord 40 0x2000000064))) =
      some { rst with now := 100 } := by decide
theorem test_placed_key_runs :
    decodeTableWord 8 0 = some .decAwaitLowL0 ∧
      (nextState (step (rst.withFetchWord 8 0))).map (·.decState) = some .awaitingHigh := by decide

/-! ## The assembler (R82 to R84) -/

-- program P1's first frame words: 83 of them, the first 0x1000000B0E, the last 0x10000019BE
theorem test_sendframe :
    (asmFrame 2830 [0x01, 0xF4, 0x00, 0xC8, 0xBD]).map (fun ws => (ws.length, ws.head?, ws.getLast?)) =
      some (83, some 0x1000000B0E, some 0x10000019BE) := by decide
theorem test_timestamp_out_of_range : asmFrame 0xFFFFFFFF [0, 0, 0, 0, 0] = none := by decide
theorem test_assemble_text :
    assembleText "TIME 0x7D0, LERR ; two ms\nTICK".toList = some [0x22000007D0, 0x3000000000] := by decide

/-! ## The Edge Decoder (D1 to D21) -/

theorem test_D1 : nextState (exec (.trans 2830 true) armed) = some armed := by decide
theorem test_D2 : nextState (exec .decAwaitLowL0 armed) = some { armed with decState := .awaitingHigh } := by decide
theorem test_D3 : nextState (exec .decAwaitHighL0 { armed with decState := .awaitingHigh }) =
    some { armed with decState := .awaitingHigh } := by decide
theorem test_D4 : (nextState (exec .decAwaitHighL1 { armed with decState := .awaitingHigh })).map (·.decState) =
    some .awaitingBitLow := by decide
theorem test_D5 : nextState (exec .decAwaitBitLowL1 { armed with decState := .awaitingBitLow }) =
    some { armed with decState := .awaitingBitLow } := by decide
theorem test_D6 : nextState (exec .decAwaitBitLowL0 { armed with decState := .awaitingBitLow, byteIdx := 3, bitIdx := 2, frame := some 9 }) =
    some { armed with decState := .awaitingBitHigh } := by decide
theorem test_D7 : nextState (exec .decAwaitBitHighL0 { armed with decState := .awaitingBitHigh }) =
    some { armed with decState := .awaitingBitHigh } := by decide
theorem test_D8 : nextState (exec (.decAwaitBitHighL1 3040) { armed with decState := .awaitingBitHigh }) =
    some (falling 0 7 0) := by decide
theorem test_D9 : nextState (exec (.decAwaitBitFallL1) (falling 0 7 0)) = some (falling 0 7 0) := by decide
theorem test_D10 : nextState (exec (.decAwaitBitFallL0 3080) (falling 0 7 0)) =
    some { falling 0 6 0 with decState := .awaitingBitHigh } := by decide
theorem test_D11 : nextState (exec (.decAwaitBitFallL0 3081) (falling 0 7 0)) =
    some { falling 0 6 0x8000000000 with decState := .awaitingBitHigh } := by decide
theorem test_D13 : (nextState (exec (.trans 32 false) { falling 0 7 0 with tsHigh := some 0xFFFFFFF0 })).map (·.frame) =
    some (some 0x8000000000) := by decide
theorem test_D14 : (nextState (exec (.trans 3000 false) (falling 0 7 0))).map (·.frame) = some (some 0x8000000000) := by
  decide
-- D16 with the row DEC_COMPLETE, and in the whole row
theorem test_D16 : nextState (exec .decComplete { falling 5 7 1 with tsHigh := none }) =
    some { falling 5 7 1 with tsHigh := none, decState := .idle, done := true } := by decide
theorem test_D16_row : nextState (exec (.decAwaitBitFallL0 3081) (falling 4 0 0)) =
    some { falling 5 7 1 with decState := .idle, done := true } := by decide
theorem test_D17 : nextState (exec (.decIdle true) (based 200 500 0x01F400C8BD)) = some (based 200 500 0x01F400C8BD) := by decide
theorem test_D19 : faultOf (exec (.decReserved 6 true) rst) = some .reservedDecState ∧
    faultOf (exec (.trans 0 false) { rst with decState := .reserved7 }) = some .reservedDecState := by decide
theorem test_D20 : nextState (exec .arm { falling 0 6 0x8000000000 with decState := .awaitingBitHigh }) =
    some { armed with tsHigh := some 3040 } := by decide

/-! ## The Orchestrator (O1 to O17) -/

theorem test_O1 : nextState (exec (.txnStart false) { rst with schState := .busy }) =
    some { waking with log := [(.driveHigh, .ok)] } := by decide
theorem test_O2 : nextState (exec (.time 1999 false) waking) = some { waking with now := 1999 } := by decide
theorem test_O3 : nextState (exec (.orcWake false) { waking with now := 2000 }) =
    some { starting with log := [(.driveLow, .ok)] } := by decide
theorem test_O4 : nextState (exec (.time 5000 false) waking) =
    some { starting with now := 5000, phaseT0 := some 5000, log := [(.driveLow, .ok)] } := by decide
theorem test_O5 : nextState (exec (.orcStart false) { starting with now := 2799 }) = some { starting with now := 2799 } := by decide
theorem test_O6 : nextState (exec (.orcStart false) { starting with now := 2800 }) =
    some { armed with log := [(.driveHigh, .ok), (.readMode, .ok)] } := by decide
theorem test_O7 : nextState (exec .orcWait { armed with now := 22799 }) = some { armed with now := 22799 } := by decide
theorem test_O8 : nextState (exec .orcWait { armed with now := 22800 }) =
    some { armed with now := 22800, lastStatus := .timeout, orcPhase := .idle, schState := .run, remaining := 2 } := by
  decide
theorem test_O8_row : nextState (exec .txnTimeout armed) =
    some { armed with lastStatus := .timeout, orcPhase := .idle, schState := .run, remaining := 2 } := by decide
theorem test_O9 : nextState (exec (.tick true) rst) =
    some { rst with log := [(.driveHigh, .err), (.readMode, .ok)], lastStatus := .line, remaining := 2,
                     attempts := 1 } := by decide
theorem test_O10 : nextState (exec (.orcWake true) { waking with now := 2000 }) =
    some { waking with now := 2000, log := [(.driveLow, .err), (.readMode, .ok)], lastStatus := .line, orcPhase := .idle,
                        lineMode := .read, schState := .run, remaining := 2 } := by decide
theorem test_O11 : nextState (exec .txnLineError { starting with log := [(.driveHigh, .err)] }) =
    some { starting with log := [(.driveHigh, .err), (.readMode, .ok)], lastStatus := .line, orcPhase := .idle,
                          lineMode := .read, schState := .run, remaining := 2 } := by decide
theorem test_O12 : nextState (exec (.orcEval true) { waking with now := 1999 }) = some { waking with now := 1999 } := by decide
-- O14's last step: the 40th edge completes the frame, and it is accepted first
theorem test_O14 : nextState (exec (.trans 6590 false) { falling 4 0 0x01F400C8BC with tsHigh := some 6520 }) =
    some { falling 5 7 0x01F400C8BD with
      tsHigh := some 6520, decState := .idle, done := true, rxFrame := some 0x01F400C8BD, orcPhase := .idle, rdT := some 200,
      rdRh := some 500, prevValid := true, prevT := some 200, prevRh := some 500, accepted := 1, lastStatus := .acceptFirst,
      schState := .run, remaining := 1 } := by decide
theorem test_O15 : (nextState (exec (.step 0x2000000000) { waking with now := 0xFFFFF830, phaseT0 := some 0xFFFFF830 })).map
    (fun t => (t.orcPhase, t.phaseT0)) = some (.start, some 0) := by decide
theorem test_O16 : nextState (exec .orcIdle (based 200 500 0)) = some (based 200 500 0) := by decide
theorem test_line_op_fails_once :
    nextState (exec (.lineOp .driveLow true false) rst) = some { rst with log := [(.driveLow, .err)] } ∧
    nextState (exec (.lineOp .readMode true false) { rst with log := [(.driveHigh, .ok)] }) =
      some { rst with log := [(.driveHigh, .ok), (.readMode, .ok)] } := by decide
theorem test_txn_complete :
    (nextState (exec .txnComplete { armed with frame := some 0x01F400C8BE, done := true })).map
      (fun t => (t.rxFrame, t.lastStatus, t.remaining, t.orcPhase)) =
      some (some 0x01F400C8BE, .checksum, 1, .idle) := by decide

/-! ## The Validator (V1 to V21) -/

/-- What a vector of L2.4 shows: Reading and baseline, `accepted`, the status. -/
def judged (s : State) : Option (List (Option Int) × Nat × Status) :=
  (nextState (exec .validate s)).map fun t =>
    ([t.rdT.map (·.toInt), t.rdRh.map (·.toInt), t.prevT.map (·.toInt), t.prevRh.map (·.toInt)], t.accepted.toNat,
      t.lastStatus)

-- V2, V4, V5, V7, V8 as fields of the frame
theorem test_fields :
    (temperature 0xFFFFFFFFFC, humidity 0xFFFFFFFFFC) = (-32767, -1) ∧ temperature 0x01F48032A7 = -50 ∧
      temperature 0x01F4800075 = 0 ∧ humidity 0xFFFF00C8C6 = -1 ∧ humidity 0x800000C848 = -32768 := by decide
-- V9 and V10: at the limit of 50, and past it
theorem test_V9_V10 :
    judged (based 200 500 0x01F400FAEF) = some ([some 250, some 500, some 250, some 500], 2, .accept) ∧
      judged (based 200 500 0x01F400FBF0) = some ([some 200, some 500, some 251, some 500], 1, .plaus) := by decide

/-! ## The Poll Scheduler (S1 to S12) and RESET (T1) -/

theorem test_S1 : nextState (exec .tickCountdown { rst with remaining := 2 }) = some { rst with remaining := 1 } := by decide
theorem test_S3 : nextState (exec (.tickStart false) rst) = some { waking with log := [(.driveHigh, .ok)] } := by decide
theorem test_S4 : nextState (exec (.tickBusy true) waking) = some waking ∧ nextState (exec (.tick false) waking) = some waking := by decide
theorem test_S5 : nextState (exec .stop { rst with remaining := 1 }) = some stoppedState := by decide
theorem test_S6 : nextState (exec (.tickStopped false) stoppedState) = some stoppedState := by decide
theorem test_S8 : (nextState (exec (.time 22800 false) { armed with stopReq := true })).map
    (fun t => (t.lastStatus, t.schState, t.remaining)) = some (.timeout, .stopped, 2) := by decide
theorem test_S9 :
    [.lineError, .timeoutError, .checksumError, .plausibilityError, .acceptedFirst, .accepted].map
      (fun o => (nextState (exec (.txnEnd o) waking)).map (·.remaining)) =
      [some 2, some 2, some 1, some 1, some 1, some 2] := by decide
theorem test_tick_reserved : faultOf (exec (.tickReserved true) rst) = some (.reservedCode .schState) := by decide
theorem test_T1 : nextState (exec .reset starting) = some rst := by decide
theorem test_refused_word :
    refusalOf (exec (.refused 0x1200000000) rst) = some (.illFormedWord .lerr) ∧
      advance { rst with stimuli := [0x1200000000] } = { rst with refusalMark := true } := by decide

/-! ## Witnesses: for each obligation with hypotheses, a state and operands that meet them -/

theorem witness_DecodeEncodeAgree :
    (Instr.time 0xFFFFFFFF true).WellFormed = true ∧ encode (.time 0xFFFFFFFF true) = some (.stim 0x22FFFFFFFF) ∧
      (Instr.refused 0).WellFormed = true ∧ encode (.refused 0) = some (.stim 0) := by decide

theorem witness_RefusedExactlyIllFormed :
    spellsNothing 0x3000000001 = true ∧ { rst with stimuli := [0x3000000001] }.stimuli = 0x3000000001 :: [] := by decide

/-- The largest start the first clause takes, the smallest the second does, and the third's smallest byte. -/
theorem witness_SendFrameExpandsToEightyThree :
    (4294962335 + 160 + 40 * 120 < 2 ^ 32 ∧ ¬ 4294962336 + 160 + 40 * 120 < 2 ^ 32 ∧ 255 < 256) ∧ 2 ^ 32 ≤ 4294967296 ∧
      ∃ b ∈ [256], 256 ≤ b := by decide

theorem witness_StepRunsDecodedWord :
    { rst with stimuli := [0x3000000000] }.stimuli = 0x3000000000 :: [] ∧ rst.stimuli = [] := by decide

theorem inv_rst : rst.Inv := by
  refine ⟨rfl, ⟨?_, ?_, ?_, ?_, ?_⟩, ⟨?_, ?_, ?_, ?_, ?_, ?_, ?_⟩, ?_⟩ <;> (try unfold State.AttemptCounted) <;> decide

theorem inv_waking : waking.Inv := by
  refine ⟨rfl, ⟨?_, ?_, ?_, ?_, ?_⟩, ⟨?_, ?_, ?_, ?_, ?_, ?_, ?_⟩, ?_⟩ <;> (try unfold State.AttemptCounted) <;> decide

theorem inv_starting : starting.Inv := by
  refine ⟨rfl, ⟨?_, ?_, ?_, ?_, ?_⟩, ⟨?_, ?_, ?_, ?_, ?_, ?_, ?_⟩, ?_⟩ <;> (try unfold State.AttemptCounted) <;> decide

theorem inv_armed : armed.Inv := by
  refine ⟨rfl, ⟨?_, ?_, ?_, ?_, ?_⟩, ⟨?_, ?_, ?_, ?_, ?_, ?_, ?_⟩, ?_⟩ <;> (try unfold State.AttemptCounted) <;> decide

theorem inv_last_bit : (falling 4 0 0x01F400C8BC).Inv := by
  refine ⟨rfl, ⟨?_, ?_, ?_, ?_, ?_⟩, ⟨?_, ?_, ?_, ?_, ?_, ?_, ?_⟩, ?_⟩ <;> (try unfold State.AttemptCounted) <;> decide

theorem inv_fallingIdle : (fallingIdle 4 0).Inv := by
  refine ⟨rfl, ⟨?_, ?_, ?_, ?_, ?_⟩, ⟨?_, ?_, ?_, ?_, ?_, ?_, ?_⟩, ?_⟩ <;> (try unfold State.AttemptCounted) <;> decide

theorem inv_stopped : stoppedState.Inv := by
  refine ⟨rfl, ⟨?_, ?_, ?_, ?_, ?_⟩, ⟨?_, ?_, ?_, ?_, ?_, ?_, ?_⟩, ?_⟩ <;> (try unfold State.AttemptCounted) <;> decide

theorem witness_TransRunsItsKeysRowThenSettles : armed.Legal := rfl

theorem witness_TickRunsItsKeysArmThenSettles : rst.Legal := rfl

theorem witness_ConfigurationNeverChanges : ∃ t, exec (.tick false) rst = .next t := ⟨_, rfl⟩

/-- The three clauses at the cursor's boundaries: mid-byte, the end of byte 3, the end of byte 4. -/
theorem witness_FallingEdgeStoresBitAndAdvances :
    ((falling 0 7 0).tsHigh = some 3040 ∧ (falling 0 7 0).frame = some 0 ∧ (falling 0 7 0).byteIdx.toNat ≤ 4 ∧
      (falling 0 7 0).bitIdx ≠ 0) ∧
    ((falling 3 0 0).byteIdx.toNat ≤ 4 ∧ (falling 3 0 0).bitIdx = 0 ∧ (falling 3 0 0).byteIdx ≠ 4) ∧
    ((falling 4 0 0).byteIdx.toNat ≤ 4 ∧ (falling 4 0 0).bitIdx = 0 ∧ (falling 4 0 0).byteIdx = 4) := by decide

theorem witness_ThresholdTable : Config.testcfg.tBitUs = 40 := rfl

theorem witness_ArmResetsTheDecoder : exec .arm rst = .next (armDecoder rst) := rfl

theorem witness_ReservedDecoderCodeFaults :
    { rst with decState := .reserved6, stimuli := [0x1000000000] }.stimuli = 0x1000000000 :: [] ∧
      decodeStim 0x1000000000 = .trans 0 false ∧ rst.faultMark = none ∧
      { rst with decState := .reserved7 }.decState = .reserved7 := by decide

theorem witness_ReadOfNoValueFaults :
    (rst.tsHigh = none ∧ rst.phaseT0 = none ∧ rst.done = false ∧ rst.frame = none ∧ rst.rxFrame = none) ∧
    (checksumOk 0x01F400C8BD = true ∧ { fresh 0x01F400C8BD with prevValid := true }.prevT = none ∧
      { fresh 0x01F400C8BD with prevValid := true, prevT := some 0 }.prevRh = none) ∧
    ({ falling 4 0 0 with frame := none }.byteIdx.toNat ≤ 4 ∧ (falling 4 0 0).cfg.tBitUs < ((3081 : Time) - 3040).toNat ∧
      { falling 4 0 0 with frame := none }.tsHigh = some 3040 ∧ ((3080 : Time) - 3040).toNat ≤ (falling 4 0 0).cfg.tBitUs) := by
  decide

theorem witness_CursorMovesOncePerFallingEdge :
    (∃ t, exec (.trans 3081 false) (falling 4 0 0) = .next t ∧ (falling 4 0 0).orcPhase ≠ .start) ∧
    (∃ t, exec (.trans 2990 false) { armed with decState := .awaitingBitLow } = .next t) ∧
    (∃ t, exec (.trans 2830 true) armed = .next t) ∧
    (∃ t, exec (.trans 2830 true) { starting with now := 2799 } = .next t ∧
      ((2799 : Time) - 2000).toNat < starting.cfg.tStartUs) :=
  ⟨⟨_, rfl, by decide⟩, ⟨_, rfl⟩, ⟨_, rfl⟩, ⟨_, rfl, by decide⟩⟩

theorem witness_DecoderRowsWriteOnlyDecoderState :
    decoderRow .decAwaitLowL0 = true ∧ ∃ t, exec .decAwaitLowL0 armed = .next t := ⟨rfl, _, rfl⟩

theorem witness_IdleTransWritesOnlyDecoderState : (fallingIdle 4 0).Inv ∧ (fallingIdle 4 0).orcPhase = .idle :=
  ⟨inv_fallingIdle, rfl⟩

/-- The two ends of the threshold's range, as configurations of the block. -/
theorem witness_SentFrameThresholds :
    22 ≤ { Config.testcfg with tBitUs := 22 }.tBitUs ∧ { Config.testcfg with tBitUs := 69 }.tBitUs < 70 := by decide

/-- An armed decoder whose transaction has timed out, with words delivered. -/
def sending (ws : List StimWord) : State :=
  { armed with orcPhase := .idle, schState := .run, lastStatus := .timeout, remaining := 2, stimuli := ws }

/-- The vectors' "armed at 2800" on the last microsecond before the timeout, with words delivered. -/
def sendingInTime (ws : List StimWord) : State := { armed with now := 22799, stimuli := ws }

theorem inv_sending (ws : List StimWord) : (sending ws).Inv := by
  refine ⟨rfl, ⟨?_, ?_, ?_, ?_, ?_⟩, ⟨?_, ?_, ?_, ?_, ?_, ?_, ?_⟩, ?_⟩ <;> (try unfold State.AttemptCounted) <;>
    simp [sending, armed, waking, rst, State.resetWith, Block.reset]

theorem inv_sendingInTime (ws : List StimWord) : (sendingInTime ws).Inv := by
  refine ⟨rfl, ⟨?_, ?_, ?_, ?_, ?_⟩, ⟨?_, ?_, ?_, ?_, ?_, ?_, ?_⟩, ?_⟩ <;> (try unfold State.AttemptCounted) <;>
    simp [sendingInTime, armed, waking, rst, State.resetWith, Block.reset]

theorem witness_SentFrameIsReconstructed :
    ∃ ws, asmFrame 2830 [0x01, 0xF4, 0x00, 0xC8, 0xBD] = some ws ∧
      ((sending ws).Inv ∧ (sending ws).orcPhase = .idle ∧ (sending ws).decState = .awaitingLow ∧
        22 ≤ (sending ws).cfg.tBitUs ∧ (sending ws).cfg.tBitUs < 70 ∧ (sending ws).stimuli = ws) ∧
      ((sendingInTime ws).Inv ∧ (sendingInTime ws).orcPhase = .wait ∧ (sendingInTime ws).decState = .awaitingLow ∧
        (sendingInTime ws).phaseT0 = some 2800 ∧ ((sendingInTime ws).now - 2800).toNat < (sendingInTime ws).cfg.tTimeoutUs ∧
        22 ≤ (sendingInTime ws).cfg.tBitUs ∧ (sendingInTime ws).cfg.tBitUs < 70 ∧ (sendingInTime ws).stimuli = ws) := by
  obtain ⟨ws, h⟩ := Option.isSome_iff_exists.mp (show (asmFrame 2830 [0x01, 0xF4, 0x00, 0xC8, 0xBD]).isSome = true by decide)
  have lo : 22 ≤ 40 := by decide
  have hi : 40 < 70 := by decide
  have inTime : ((22799 : Time) - 2800).toNat < 20000 := by decide
  exact ⟨ws, h, ⟨inv_sending ws, rfl, rfl, lo, hi, rfl⟩, inv_sendingInTime ws, rfl, rfl, rfl, inTime, lo, hi, rfl⟩

theorem witness_TxnStartResult : rst.log = [] := rfl

/-- The hold's two sides: 1999 and 2000 microseconds. -/
theorem witness_WakePhaseResult :
    ({ waking with now := 1999 }.phaseT0 = some 0 ∧ waking.log = [] ∧ ((1999 : Time) - 0).toNat < waking.cfg.tWakeUs) ∧
      waking.cfg.tWakeUs ≤ ((2000 : Time) - 0).toNat := by decide

/-- The hold's two sides: 799 and 800 microseconds. -/
theorem witness_StartPhaseResult :
    ({ starting with now := 2799 }.phaseT0 = some 2000 ∧ starting.log = [] ∧
      ((2799 : Time) - 2000).toNat < starting.cfg.tStartUs) ∧ starting.cfg.tStartUs ≤ ((2800 : Time) - 2000).toNat := by
  decide

theorem witness_IdleAndWaitPhaseResult :
    ({ armed with done := true }.done = true ∧ { armed with done := true }.frame.isSome = true ∧ armed.prevValid = false) ∧
    (armed.done = false ∧ armed.phaseT0 = some 2800 ∧ armed.cfg.tTimeoutUs ≤ ((22800 : Time) - 2800).toNat ∧
      ((22799 : Time) - 2800).toNat < armed.cfg.tTimeoutUs) := by decide

theorem witness_CompleteHandsFrameToValidator :
    armed.frame = some 0 ∧ armed.prevValid = false ∧
      ((based 200 500 0).frame = some 0 ∧ (based 200 500 0).prevValid = true ∧ (based 200 500 0).prevT.isSome = true ∧
        (based 200 500 0).prevRh.isSome = true) := by decide

theorem witness_LineErrorEndsWakeStep :
    waking.Inv ∧ waking.orcPhase = .wake ∧ waking.phaseT0 = some 0 ∧ waking.cfg.tWakeUs ≤ ((2000 : Time) - 0).toNat :=
  ⟨inv_waking, by decide⟩

theorem witness_TimeoutEndsWaitStep :
    armed.Inv ∧ armed.orcPhase = .wait ∧ armed.done = false ∧ armed.phaseT0 = some 2800 ∧
      armed.cfg.tTimeoutUs ≤ ((22800 : Time) - 2800).toNat ∧ ((22799 : Time) - 2800).toNat < armed.cfg.tTimeoutUs :=
  ⟨inv_armed, by decide⟩

/-- One step for each way a phase can change. -/
theorem witness_OnePhasePerStep :
    (rst.Inv ∧ ∃ t, exec (.tick false) rst = .next t ∧ t.orcPhase ≠ rst.orcPhase) ∧
    (waking.Inv ∧ ∃ t, exec (.time 2000 false) waking = .next t ∧ t.orcPhase ≠ waking.orcPhase) ∧
    (starting.Inv ∧ ∃ t, exec (.time 2800 false) starting = .next t ∧ t.orcPhase ≠ starting.orcPhase) ∧
    (armed.Inv ∧ ∃ t, exec (.time 22800 false) armed = .next t ∧ t.orcPhase ≠ armed.orcPhase) :=
  ⟨⟨inv_rst, _, rfl, by decide⟩, ⟨inv_waking, _, rfl, by decide⟩, ⟨inv_starting, _, rfl, by decide⟩,
    ⟨inv_armed, _, rfl, by decide⟩⟩

/-- The two ends of a hold, and the LineError that leaves it for `O_IDLE`. -/
theorem witness_HoldsAreLowerBounds :
    (∃ t, exec (.time 2000 false) waking = .next t ∧ waking.phaseT0 = some 0 ∧ waking.orcPhase = .wake ∧
      t.orcPhase = .start ∧ waking.schState = .busy) ∧
    (∃ t, exec (.time 2800 false) starting = .next t ∧ starting.phaseT0 = some 2000 ∧ starting.orcPhase = .start ∧
      t.orcPhase = .wait ∧ starting.schState = .busy) ∧
    (∃ t, exec (.time 2000 true) waking = .next t ∧ t.orcPhase ≠ .wake) ∧
    (∃ t, exec (.time 2800 true) starting = .next t ∧ t.orcPhase ≠ .start) :=
  ⟨⟨_, rfl, by decide⟩, ⟨_, rfl, by decide⟩, ⟨_, rfl, by decide⟩, ⟨_, rfl, by decide⟩⟩

theorem witness_AttemptsCountTransactions :
    (∃ t, exec (.tick false) rst = .next t ∧ rst.schState = .run ∧ rst.remaining = 0) ∧
      ∃ t, exec (.tick false) { rst with remaining := 1 } = .next t := ⟨⟨_, rfl, by decide⟩, ⟨_, rfl⟩⟩

theorem witness_OnlyCompleteFramesAreHandedOver :
    (falling 4 0 0x01F400C8BC).Inv ∧ ∃ t, exec (.trans 3081 false) (falling 4 0 0x01F400C8BC) = .next t ∧
      t.rxFrame ≠ (falling 4 0 0x01F400C8BC).rxFrame := ⟨inv_last_bit, _, rfl, by decide⟩

theorem witness_LineErrorDrawUnusedHasNoEffect :
    (∃ u, exec (.time 1999 false) waking = .next u ∧ u.log = []) ∧
      ∃ u, exec (.tick false) { rst with remaining := 1 } = .next u ∧ u.log = [] := ⟨⟨_, rfl, rfl⟩, ⟨_, rfl, rfl⟩⟩

theorem witness_ChecksumMismatchWritesOnlyStatus :
    (fresh 0x01F400C8BE).rxFrame = some 0x01F400C8BE ∧ checksumOk 0x01F400C8BE = false := by decide

/-- V10 and V9: past the limit, and at it. -/
theorem witness_ValidateChecksummedFrame :
    ((based 200 500 0x01F400FBF0).rxFrame = some 0x01F400FBF0 ∧ checksumOk 0x01F400FBF0 = true ∧
      (based 200 500 0x01F400FBF0).prevT = some 200 ∧ (based 200 500 0x01F400FBF0).prevRh = some 500 ∧
      (based 200 500 0x01F400FBF0).prevValid = true ∧ (temperature 0x01F400FBF0 - (200 : Tenths).toInt).natAbs > 50) ∧
    (checksumOk 0x01F400FAEF = true ∧ (temperature 0x01F400FAEF - (200 : Tenths).toInt).natAbs ≤ 50 ∧
      (humidity 0x01F400FAEF - (500 : Tenths).toInt).natAbs ≤ 100) := by decide

theorem witness_ValidateWithoutBaselineAccepts :
    (fresh 0x03E801F4E0).rxFrame = some 0x03E801F4E0 ∧ checksumOk 0x03E801F4E0 = true ∧
      (fresh 0x03E801F4E0).prevValid = false := by decide

theorem witness_SourceFilterExamples : Config.testcfg.plausDt = 50 ∧ Config.testcfg.plausDrh = 100 := by decide

theorem witness_OnlyAcceptanceWritesReading :
    ∃ t, exec (.trans 3081 false) (falling 4 0 0x01F400C8BC) = .next t ∧ t.accepted ≠ (falling 4 0 0).accepted :=
  ⟨_, rfl, by decide⟩

theorem witness_TickArmsResult : { rst with remaining := 1 }.remaining ≠ 0 := by decide

theorem witness_ReservedCodesFault : ¬ { rst with lineMode := .reserved3 }.Legal := by unfold State.Legal; decide

theorem witness_TickStartsTransaction : rst.Inv ∧ rst.schState = .run ∧ rst.remaining = 0 := ⟨inv_rst, by decide⟩

/-- No transaction, and each phase on its last microsecond. -/
theorem witness_StopLatchesRequest :
    (rst.Legal ∧ rst.Inv ∧ rst.orcPhase = .idle) ∧
    (waking.Inv ∧ waking.phaseT0 = some 0 ∧ waking.orcPhase = .wake ∧ ((1999 : Time) - 0).toNat < waking.cfg.tWakeUs) ∧
    (starting.Inv ∧ starting.phaseT0 = some 2000 ∧ starting.orcPhase = .start ∧
      ((2799 : Time) - 2000).toNat < starting.cfg.tStartUs) ∧
    (armed.Inv ∧ armed.phaseT0 = some 2800 ∧ armed.orcPhase = .wait ∧ armed.done = false ∧
      ((22799 : Time) - 2800).toNat < armed.cfg.tTimeoutUs) :=
  ⟨⟨rfl, inv_rst, rfl⟩, ⟨inv_waking, by decide⟩, ⟨inv_starting, by decide⟩, inv_armed, by decide⟩

theorem witness_OnlyTimeWritesNow :
    waking.Legal ∧ (∃ u, exec (.time 1999 false) waking = .next u) ∧ (rst.Inv ∧ rst.orcPhase = .idle) ∧
    (starting.Inv ∧ starting.orcPhase = .start ∧ starting.phaseT0 = some 2000 ∧
      starting.cfg.tStartUs ≤ ((2800 : Time) - 2000).toNat) :=
  ⟨rfl, ⟨_, rfl⟩, ⟨inv_rst, rfl⟩, inv_starting, by decide⟩

theorem witness_CountersNeverFall : ∃ t, exec (.tick false) rst = .next t := ⟨_, rfl⟩

/-- A countdown from 2, with its three TICKs delivered. -/
def counting : State :=
  { rst with remaining := 2, stimuli := List.replicate 3 0x3000000000 }

theorem inv_counting : counting.Inv := by
  refine ⟨rfl, ⟨?_, ?_, ?_, ?_, ?_⟩, ⟨?_, ?_, ?_, ?_, ?_, ?_, ?_⟩, ?_⟩ <;> (try unfold State.AttemptCounted) <;> decide

theorem witness_TicksCountDownThenStart :
    counting.Inv ∧ counting.schState = .run ∧
      counting.stimuli = List.replicate (counting.remaining.toNat + 1) 0x3000000000 ++ [] := ⟨inv_counting, by decide⟩

theorem witness_StoppedIsTerminal :
    stoppedState.Inv ∧ stoppedState.schState = .stopped ∧ ∃ t, exec (.tick false) stoppedState = .next t :=
  ⟨inv_stopped, rfl, _, rfl⟩

theorem witness_ResetSetsEveryRegister : boot RawConfig.testcfg = .next rst := rfl

/-- Each constraint just broken, the widths included. -/
theorem witness_BadConfigurationRefused_broken :
    [{ RawConfig.testcfg with tWakeUs := 1999 }, { RawConfig.testcfg with tStartUs := 799 },
      { RawConfig.testcfg with tTimeoutUs := 9999 }, { RawConfig.testcfg with tTimeoutUs := 100000 },
      { RawConfig.testcfg with defaultDelay := 65536 }, { RawConfig.testcfg with shortDelay := 65536 },
      { RawConfig.testcfg with tsW := 33 }, { RawConfig.testcfg with remW := 17 },
      { RawConfig.testcfg with cntW := 31 }].all (fun r => decide (¬ r.Meets)) = true := by decide

/-- Each constraint just met. -/
theorem witness_BadConfigurationRefused_met :
    [{ RawConfig.testcfg with tWakeUs := 2000 }, { RawConfig.testcfg with tStartUs := 800 },
      { RawConfig.testcfg with tTimeoutUs := 10000 }, { RawConfig.testcfg with tTimeoutUs := 99999 },
      { RawConfig.testcfg with defaultDelay := 65535 }, { RawConfig.testcfg with shortDelay := 65535 }].all
      (fun r => decide r.Meets) = true := by decide

theorem witness_StepKeepsInvariant : counting.Inv ∧ ∃ t, step counting = .next t := ⟨inv_counting, _, rfl⟩

theorem witness_ReachedStatesAreSound :
    Reaches (deliver [0x2000000064] (State.resetWith Config.testcfg)) { rst with now := 100 } :=
  .step .refl rfl

theorem witness_StepIsTheBlocksStep : counting.stimuli = 0x3000000000 :: List.replicate 2 0x3000000000 := rfl

theorem witness_SoundStatesNeverFault : armed.Inv ∧ spellsNothing 0x2000005910 = false := ⟨inv_armed, by decide⟩

end Sys2Proof.Tests
end

section
/-! What no operation writes (00_scope.md R9, 70_reset_and_hazards.md R190): the configuration, the two marks and the words
still to come. Each shared operation leaves them alone, and so does whatever is made of such operations. -/

namespace Sys2Proof.Machine

/-- What `State` carries beside the block's registers and its log: the configuration, the two marks and the delivered words. -/
def surroundings (s : State) : Config × Option Fault × Bool × List StimWord :=
  (s.cfg, s.faultMark, s.refusalMark, s.stimuli)

theorem surroundings_eq_iff {s t : State} :
    surroundings t = surroundings s ↔
      t.cfg = s.cfg ∧ t.faultMark = s.faultMark ∧ t.refusalMark = s.refusalMark ∧ t.stimuli = s.stimuli := by
  simp [surroundings]

/-- If `r` answers a next state, that state has the surroundings of `s`. -/
def Keeps (s : State) (r : Result) : Prop := ∀ t, r = .next t → surroundings t = surroundings s

@[simp] theorem keeps_next_iff {s t : State} : Keeps s (.next t) ↔ surroundings t = surroundings s := by
  simp [Keeps]

@[simp] theorem keeps_fault (s : State) (f : Fault) : Keeps s (.fault f) := by simp [Keeps]

@[simp] theorem keeps_refused (s : State) (x : Refusal) : Keeps s (.refused x) := by simp [Keeps]

/-! ## The shared operations -/

variable (s : State)

@[simp] theorem surroundings_freshLog : surroundings (freshLog s) = surroundings s := rfl
@[simp] theorem surroundings_armDecoder : surroundings (armDecoder s) = surroundings s := rfl
@[simp] theorem surroundings_lineError : surroundings (lineError s) = surroundings s := rfl
@[simp] theorem surroundings_timeoutError : surroundings (timeoutError s) = surroundings s := rfl
@[simp] theorem surroundings_setNow (t : Time) : surroundings (setNow t s) = surroundings s := rfl
@[simp] theorem surroundings_requestStop : surroundings (requestStop s) = surroundings s := rfl
@[simp] theorem surroundings_handOff (F : Frame) : surroundings (handOff F s) = surroundings s := rfl
@[simp] theorem surroundings_resetRegisters : surroundings (resetRegisters s) = surroundings s := rfl

@[simp] theorem surroundings_emitLineOp (op : LineOp) (lerr release : Bool) :
    surroundings (emitLineOp op lerr release s) = surroundings s := rfl

@[simp] theorem surroundings_endTransaction (o : TxnOutcome) : surroundings (endTransaction o s) = surroundings s := rfl

@[simp] theorem surroundings_applyVerdict (v : Verdict) : surroundings (applyVerdict v s) = surroundings s := by
  cases v <;> rfl

@[simp] theorem surroundings_startTransaction (lerr : Bool) : surroundings (startTransaction lerr s) = surroundings s := by
  obtain ⟨-, -, h⟩ | ⟨-, h⟩ := startTransaction_cases lerr s <;> rw [h] <;> rfl

@[simp] theorem surroundings_endWakeHold (lerr : Bool) : surroundings (endWakeHold lerr s) = surroundings s := by
  obtain ⟨-, -, h⟩ | ⟨-, h⟩ := endWakeHold_cases lerr s <;> rw [h] <;> rfl

@[simp] theorem surroundings_endStartHold (lerr : Bool) : surroundings (endStartHold lerr s) = surroundings s := by
  obtain ⟨-, -, h⟩ | ⟨-, h⟩ := endStartHold_cases lerr s <;> rw [h] <;> rfl

/-! ## The Edge Decoder's rows (R49) -/

variable {s}

theorem DecoderOnly.trans {t u : State} (hsu : DecoderOnly s u) (hut : DecoderOnly u t) : DecoderOnly s t := by
  unfold DecoderOnly at *
  exact hut.trans (by rw [hsu])

theorem DecoderOnly.surroundings_eq {t : State} (h : DecoderOnly s t) : surroundings t = surroundings s :=
  (congrArg surroundings (show t = _ from h)).trans rfl

theorem advanceCursor_decoderOnly {t : State} (h : advanceCursor s = .next t) : DecoderOnly s t := by
  obtain ⟨-, -, rfl⟩ | ⟨-, -, rfl⟩ | ⟨-, -, rfl⟩ | ⟨-, -, rfl⟩ := advanceCursor_eq_next h <;> rfl

theorem execDecAwaitBitFallL0_decoderOnly {ts : Time} {t : State} (h : execDecAwaitBitFallL0 ts s = .next t) :
    DecoderOnly s t := by
  obtain ⟨t0, -, ⟨-, hadv⟩ | ⟨-, -, F, -, hadv⟩⟩ := execDecAwaitBitFallL0_eq_next h
  · exact advanceCursor_decoderOnly hadv
  · have hstore : DecoderOnly s { s with frame := some (frameSetBit F s.byteIdx s.bitIdx) } := rfl
    exact hstore.trans (advanceCursor_decoderOnly hadv)

/-- A decoder row that completes has written the decoder's registers alone. -/
theorem exec_decoderOnly {i : Instr} (hi : decoderRow i = true) {t : State} (h : exec i s = .next t) :
    DecoderOnly s t := by
  cases i with
  | decAwaitBitFallL0 ts => exact execDecAwaitBitFallL0_decoderOnly h
  | decAwaitLowL0 | decAwaitLowL1 | decAwaitHighL0 | decAwaitHighL1 | decAwaitBitLowL0 | decAwaitBitLowL1
  | decAwaitBitHighL0 | decAwaitBitHighL1 | decAwaitBitFallL1 | decIdle | decComplete => cases h; rfl
  | decReserved => cases h
  | _ => cases hi

/-- A transition performs one of the decoder's rows (R91). -/
theorem transition_eq_row (ts : Time) (level : Bool) (s : State) :
    ∃ i, decoderRow i = true ∧ transition ts level s = exec i s := by
  unfold transition
  split
  · exact ⟨.decAwaitLowL0, rfl, rfl⟩
  · exact ⟨.decAwaitLowL1, rfl, rfl⟩
  · exact ⟨.decAwaitHighL0, rfl, rfl⟩
  · exact ⟨.decAwaitHighL1, rfl, rfl⟩
  · exact ⟨.decAwaitBitLowL0, rfl, rfl⟩
  · exact ⟨.decAwaitBitLowL1, rfl, rfl⟩
  · exact ⟨.decAwaitBitHighL0, rfl, rfl⟩
  · exact ⟨.decAwaitBitHighL1 ts, rfl, rfl⟩
  · exact ⟨.decAwaitBitFallL0 ts, rfl, rfl⟩
  · exact ⟨.decAwaitBitFallL1, rfl, rfl⟩
  next level _ => exact ⟨.decIdle level, rfl, rfl⟩
  next level _ => exact ⟨.decReserved 6 level, rfl, rfl⟩
  next level _ => exact ⟨.decReserved 7 level, rfl, rfl⟩

theorem transition_decoderOnly {ts : Time} {level : Bool} {t : State} (h : transition ts level s = .next t) :
    DecoderOnly s t := by
  obtain ⟨i, hi, hrow⟩ := transition_eq_row ts level s
  exact exec_decoderOnly hi (hrow ▸ h)

variable (s)

theorem keeps_decoderRow {i : Instr} (hi : decoderRow i = true) : Keeps s (exec i s) :=
  fun _ h => (exec_decoderOnly hi h).surroundings_eq

theorem keeps_transition (ts : Time) (level : Bool) : Keeps s (transition ts level s) :=
  fun _ h => (transition_decoderOnly h).surroundings_eq

/-! ## The Validator, the Orchestrator and the TICK arms -/

theorem keeps_execValidate : Keeps s (execValidate s) := by
  unfold execValidate
  split <;> simp

theorem keeps_concludeFrame : Keeps s (concludeFrame s) := by
  unfold concludeFrame
  split <;> simp

theorem keeps_execTxnComplete : Keeps s (execTxnComplete s) := by
  unfold execTxnComplete
  split
  · simp
  · exact keeps_concludeFrame (handOff _ s)

theorem keeps_execOrcWake (lerr : Bool) : Keeps s (execOrcWake lerr s) := by
  unfold execOrcWake
  split
  · simp
  · split_ifs <;> simp

theorem keeps_execOrcStart (lerr : Bool) : Keeps s (execOrcStart lerr s) := by
  unfold execOrcStart
  split
  · simp
  · split_ifs <;> simp

theorem keeps_execOrcWait : Keeps s (execOrcWait s) := by
  unfold execOrcWait execTxnTimeout
  split_ifs
  · exact keeps_execTxnComplete s
  · split
    · simp
    · split_ifs <;> simp

theorem keeps_execOrcEval (lerr : Bool) : Keeps s (execOrcEval lerr s) := by
  unfold execOrcEval
  split
  · exact keeps_next_iff.mpr rfl
  · exact keeps_execOrcWake s lerr
  · exact keeps_execOrcStart s lerr
  · exact keeps_execOrcWait s

theorem keeps_execTickStart (lerr : Bool) : Keeps s (execTickStart lerr s) :=
  keeps_next_iff.mpr (surroundings_startTransaction _ lerr)

theorem keeps_tickArm (lerr : Bool) : Keeps s (tickArm lerr s) := by
  unfold tickArm
  split
  · split_ifs
    · exact keeps_execTickStart s lerr
    · exact keeps_next_iff.mpr rfl
  · exact keeps_next_iff.mpr rfl
  · exact keeps_next_iff.mpr rfl
  · exact keeps_fault s _

/-! ## The stimuli -/

/-- A stimulus keeps what its own effect keeps: the fresh log and the settle write nothing else (R150). -/
theorem keeps_settled (lerr : Bool) {p : State → Result} (hp : ∀ u, Keeps u (p u)) : Keeps s (settled lerr p s) := by
  intro t h
  obtain ⟨-, u, hu, ht⟩ := settled_eq_next_iff.mp h
  calc surroundings t = surroundings u := keeps_execOrcEval u lerr t ht
    _ = surroundings (freshLog s) := hp (freshLog s) u hu
    _ = surroundings s := surroundings_freshLog s

theorem keeps_execTrans (ts : Time) (level : Bool) : Keeps s (execTrans ts level s) :=
  keeps_settled s false (keeps_transition · ts level)

theorem keeps_execTime (t : Time) (lerr : Bool) : Keeps s (execTime t lerr s) :=
  keeps_settled s lerr fun u => keeps_next_iff.mpr (surroundings_setNow u t)

theorem keeps_execTick (lerr : Bool) : Keeps s (execTick lerr s) :=
  keeps_settled s lerr (keeps_tickArm · lerr)

theorem keeps_execStop : Keeps s (execStop s) :=
  keeps_settled s false fun u => keeps_next_iff.mpr (surroundings_requestStop u)

theorem keeps_execReset : Keeps s (execReset s) := by simp [execReset]

theorem keeps_execStep (w : StimWord) : Keeps s (execStep w s) := by
  rw [execStep_eq]
  obtain ⟨ts, level, h⟩ | ⟨t, lerr, h⟩ | ⟨lerr, h⟩ | h | h | h := decodeStim_cases w <;> rw [h]
  · exact keeps_execTrans s ts level
  · exact keeps_execTime s t lerr
  · exact keeps_execTick s lerr
  · exact keeps_execStop s
  · exact keeps_execReset s
  · exact keeps_refused s _

/-! ## Every instruction -/

theorem keeps_exec (i : Instr) : Keeps s (exec i s) := by
  cases i with
  | trans ts level => exact keeps_execTrans s ts level
  | time t lerr => exact keeps_execTime s t lerr
  | tick lerr => exact keeps_execTick s lerr
  | stop => exact keeps_execStop s
  | reset => exact keeps_execReset s
  | refused w => exact keeps_refused s _
  | decAwaitLowL0 | decAwaitLowL1 | decAwaitHighL0 | decAwaitHighL1 | decAwaitBitLowL0 | decAwaitBitLowL1
  | decAwaitBitHighL0 | decAwaitBitHighL1 | decAwaitBitFallL0 | decAwaitBitFallL1 | decIdle | decReserved
  | decComplete => exact keeps_decoderRow s rfl
  | orcIdle | tickCountdown | tickBusy | tickStopped => exact keeps_next_iff.mpr rfl
  | orcWake lerr => exact keeps_execOrcWake s lerr
  | orcStart lerr => exact keeps_execOrcStart s lerr
  | orcWait => exact keeps_execOrcWait s
  | tickStart lerr => exact keeps_execTickStart s lerr
  | tickReserved remZero => exact keeps_fault s _
  | step w => exact keeps_execStep s w
  | orcEval lerr => exact keeps_execOrcEval s lerr
  | arm => exact keeps_next_iff.mpr (surroundings_armDecoder s)
  | txnStart lerr => exact keeps_next_iff.mpr (surroundings_startTransaction s lerr)
  | txnComplete => exact keeps_execTxnComplete s
  | txnTimeout => exact keeps_next_iff.mpr (surroundings_timeoutError s)
  | txnLineError => exact keeps_next_iff.mpr (surroundings_lineError s)
  | lineOp op lerr release => exact keeps_next_iff.mpr (surroundings_emitLineOp s op lerr release)
  | validate => exact keeps_execValidate s
  | txnEnd outcome => exact keeps_next_iff.mpr (surroundings_endTransaction s outcome)

end Sys2Proof.Machine

namespace Sys2Proof.Proofs

open Sys2Proof.Machine

/-- Settles O10: the surroundings are kept by each shared operation, and so by each of the 38 instructions. -/
theorem configurationNeverChanges : Obligations.ConfigurationNeverChanges := by
  unfold Obligations.ConfigurationNeverChanges
  intro i s t h
  exact surroundings_eq_iff.mp (keeps_exec s i t h)

end Sys2Proof.Proofs
end

section
/-! On a sound state every well-formed stimulus completes (00_scope.md R14, 10_state.md R48, 30_encoding.md R69): a sound state
holds a value wherever the stimulus's own effect or the settle reads one. -/

namespace Sys2Proof.Machine

/-! ## Which words are refused (R74) -/

theorem stimKind_toNat (w : StimWord) : (stimKind w).toNat = (w >>> 36).toNat := by
  have hlt := w.isLt
  simp only [stimKind, BitVec.extractLsb'_toNat, BitVec.toNat_ushiftRight, Nat.shiftRight_eq_div_pow]
  omega

theorem stimRsv_bne_zero (w : StimWord) : (stimRsv w != 0#2) = (w.getLsbD 34 || w.getLsbD 35) := by
  have hbits : ∀ v : BitVec 2, (v != 0#2) = (v.getLsbD 0 || v.getLsbD 1) := by decide
  rw [hbits]
  simp [stimRsv]

theorem stimValue_bne_zero (w : StimWord) : (stimValue w != 0#32) = (w.toNat % 2 ^ 32 != 0) := by
  rw [Bool.eq_iff_iff]
  simp [stimValue, BitVec.toNat_eq]

/-- R74's conditions in the word's fields (R72). -/
theorem spellsNothing_eq (w : StimWord) :
    spellsNothing w =
      (((stimKind w).toNat == 0 || 6 ≤ (stimKind w).toNat) || stimRsv w != 0#2
        || (stimLerr w && (stimKind w).toNat != 2 && (stimKind w).toNat != 3)
        || (stimLevel w && (stimKind w).toNat != 1)
        || (stimValue w != 0#32 && ((stimKind w).toNat == 3 || (stimKind w).toNat == 4 || (stimKind w).toNat == 5))) := by
  simp only [spellsNothing, stimKind_toNat, stimRsv_bne_zero, stimValue_bne_zero, stimLerr, stimLevel, Bool.or_assoc]

theorem decodeStim_eq_refused_iff (w : StimWord) : decodeStim w = .refused w ↔ spellsNothing w = true := by
  rw [spellsNothing_eq]
  unfold decodeStim
  by_cases hrsv : stimRsv w = 0#2
  · rw [if_neg (show ¬ stimRsv w ≠ 0 from not_not.mpr hrsv)]
    split
    case h_6 hne1 hne2 hne3 hne4 hne5 =>
      have hkind : (stimKind w).toNat = 0 ∨ 6 ≤ (stimKind w).toNat := by
        simp only [imp_false] at hne1 hne2 hne3 hne4 hne5
        omega
      simp [hkind]
    all_goals next hkind => cases stimLerr w <;> cases stimLevel w <;> simp [hkind, hrsv]
  · simp [hrsv]

/-! ## Soundness on the states a step passes through -/

variable {s : State}

/-- The invariant does not read the step's log. -/
theorem State.Inv.freshLog (h : s.Inv) : (freshLog s).Inv := by
  obtain ⟨hlegal, ⟨hframe, hts, ht0, hprev, hrd⟩, ⟨h1, h2, h3, h4, h5, h6, h7⟩, hcounted⟩ := h
  exact ⟨hlegal, ⟨hframe, hts, ht0, hprev, hrd⟩, ⟨h1, h2, h3, h4, h5, h6, h7⟩, hcounted⟩

/-- The invariant does not read the words still to come. -/
theorem State.Inv.withStimuli (h : s.Inv) (ws : List StimWord) : { s with stimuli := ws }.Inv := by
  obtain ⟨hlegal, ⟨hframe, hts, ht0, hprev, hrd⟩, ⟨h1, h2, h3, h4, h5, h6, h7⟩, hcounted⟩ := h
  exact ⟨hlegal, ⟨hframe, hts, ht0, hprev, hrd⟩, ⟨h1, h2, h3, h4, h5, h6, h7⟩, hcounted⟩

/-! ## The settle -/

/-- Every register that ORC_EVAL may read holds a value (R48): `frame` once a frame is complete, `phase_t0` in a timed phase,
and the baseline where there is one. -/
structure SettleReadsHeld (s : State) : Prop where
  frame_held : s.done = true → s.frame.isSome = true
  phaseT0_held : s.orcPhase ≠ .idle → s.phaseT0.isSome = true
  prev_held : s.prevValid = true → s.prevT.isSome = true ∧ s.prevRh.isSome = true

theorem State.Inv.settleReadsHeld (h : s.Inv) : SettleReadsHeld s where
  frame_held hdone := h.values.frame_held (.inr hdone)
  phaseT0_held := h.values.phaseT0_held
  prev_held hvalid := ⟨h.values.prev_held.1.mpr hvalid, h.values.prev_held.2.mpr hvalid⟩

theorem execOrcWake_completes (lerr : Bool) (h : s.phaseT0.isSome = true) : ∃ t, execOrcWake lerr s = .next t := by
  obtain ⟨t0, ht0⟩ := Option.isSome_iff_exists.mp h
  simp only [execOrcWake, ht0]
  split_ifs <;> exact ⟨_, rfl⟩

theorem execOrcStart_completes (lerr : Bool) (h : s.phaseT0.isSome = true) : ∃ t, execOrcStart lerr s = .next t := by
  obtain ⟨t0, ht0⟩ := Option.isSome_iff_exists.mp h
  simp only [execOrcStart, ht0]
  split_ifs <;> exact ⟨_, rfl⟩

theorem execTxnComplete_completes (hframe : s.frame.isSome = true)
    (hprev : s.prevValid = true → s.prevT.isSome = true ∧ s.prevRh.isSome = true) :
    ∃ t, execTxnComplete s = .next t := by
  obtain ⟨F, hF⟩ := Option.isSome_iff_exists.mp hframe
  obtain ⟨v, hv⟩ := judge_complete (s := handOff F s) rfl hprev
  exact ⟨endTransaction (verdictOutcome v) (applyVerdict v (handOff F s)),
    by simp only [execTxnComplete, hF, concludeFrame, hv]⟩

theorem execOrcWait_completes (h : SettleReadsHeld s) (hphase : s.orcPhase = .wait) : ∃ t, execOrcWait s = .next t := by
  unfold execOrcWait
  split_ifs with hdone
  · exact execTxnComplete_completes (h.frame_held hdone) h.prev_held
  · obtain ⟨t0, ht0⟩ := Option.isSome_iff_exists.mp (h.phaseT0_held (by simp [hphase]))
    simp only [ht0, execTxnTimeout]
    split_ifs <;> exact ⟨_, rfl⟩

theorem execOrcEval_completes (lerr : Bool) (h : SettleReadsHeld s) : ∃ t, execOrcEval lerr s = .next t := by
  unfold execOrcEval
  cases hphase : s.orcPhase with
  | idle => exact ⟨s, rfl⟩
  | wake => exact execOrcWake_completes lerr (h.phaseT0_held (by simp [hphase]))
  | start => exact execOrcStart_completes lerr (h.phaseT0_held (by simp [hphase]))
  | wait => exact execOrcWait_completes h hphase

/-! ## The stimuli's own effects -/

/-- Answers a next state whose settle then completes. -/
def ReadyToSettle (r : Result) : Prop := ∃ u, r = .next u ∧ SettleReadsHeld u

theorem settled_completes (hlegal : s.Legal) {lerr : Bool} {p : State → Result} (hp : ReadyToSettle (p (freshLog s))) :
    ∃ t, settled lerr p s = .next t := by
  obtain ⟨u, hu, hheld⟩ := hp
  obtain ⟨t, ht⟩ := execOrcEval_completes lerr hheld
  exact ⟨t, settled_eq_next_iff.mpr ⟨hlegal, u, hu, ht⟩⟩

/-- The decoder writes none of the settle's other registers, so only the frame is left to show. -/
theorem SettleReadsHeld.of_decoderOnly (h : SettleReadsHeld s) {t : State} (hst : DecoderOnly s t)
    (hframe : t.done = true → t.frame.isSome = true) : SettleReadsHeld t := by
  unfold DecoderOnly at hst
  refine ⟨hframe, ?_, ?_⟩ <;> rw [hst]
  · exact h.phaseT0_held
  · exact h.prev_held

/-- With the cursor inside the frame the advance completes, and the frame it leaves is the one it found (R98, R99). -/
theorem advanceCursor_completes (hbyte : s.byteIdx.toNat ≤ 4) : ∃ t, advanceCursor s = .next t ∧ t.frame = s.frame := by
  have hnext : ¬ 5 < (if s.bitIdx = 0 then s.byteIdx.toNat + 1 else s.byteIdx.toNat) := by
    split_ifs <;> omega
  unfold advanceCursor execDecComplete
  dsimp only
  rw [if_neg hnext]
  split_ifs <;> exact ⟨_, rfl, rfl⟩

theorem storeBit_completes {long : Bool} {U : Frame} (hbyte : s.byteIdx.toNat ≤ 4) (hframe : s.frame.isSome = true) :
    ∃ t, storeBit long U s = .next t ∧ t.byteIdx = s.byteIdx ∧ t.frame.isSome = true := by
  cases long with
  | false => exact ⟨s, rfl, rfl, hframe⟩
  | true => exact ⟨_, storeBit_eq_next_iff.mpr (.inr ⟨rfl, hbyte, rfl⟩), rfl, rfl⟩

theorem execDecAwaitBitFallL0_completes (ts : Time) (htsHigh : s.tsHigh.isSome = true) (hbyte : s.byteIdx.toNat ≤ 4)
    (hframe : s.frame.isSome = true) :
    ∃ t, execDecAwaitBitFallL0 ts s = .next t ∧ t.frame.isSome = true := by
  obtain ⟨t0, ht0⟩ := Option.isSome_iff_exists.mp htsHigh
  obtain ⟨u, hstore, hubyte, huframe⟩ :=
    storeBit_completes (long := longPulse s.cfg ts t0) (U := Config.unwrittenFrame ts t0 s.byteIdx s.bitIdx) hbyte hframe
  obtain ⟨t, hadv, htframe⟩ := advanceCursor_completes (hubyte ▸ hbyte)
  exact ⟨t, by simp only [execDecAwaitBitFallL0, ht0, hstore, andThen_next, hadv], htframe ▸ huframe⟩

/-- On a sound state every transition completes, and a complete frame holds a value. -/
theorem transition_completes (h : s.Inv) (ts : Time) (level : Bool) :
    ∃ t, transition ts level s = .next t ∧ (t.done = true → t.frame.isSome = true) := by
  have hdone := h.settleReadsHeld.frame_held
  obtain ⟨hne6, hne7, -⟩ := legal_iff.mp h.legal
  unfold transition
  cases hdec : s.decState <;> cases level
  case awaitingBitFalling.false =>
    obtain ⟨t, ht, hframe⟩ := execDecAwaitBitFallL0_completes ts (h.values.tsHigh_held hdec)
      (h.r45.cursor_legal (.inr hdec)) (h.values.frame_held (.inl (by simp [hdec])))
    exact ⟨t, ht, fun _ => hframe⟩
  case awaitingBitLow.false => exact ⟨_, rfl, fun _ => rfl⟩
  case reserved6.false | reserved6.true => exact absurd hdec hne6
  case reserved7.false | reserved7.true => exact absurd hdec hne7
  all_goals exact ⟨_, rfl, hdone⟩

theorem transition_ready (h : s.Inv) (ts : Time) (level : Bool) : ReadyToSettle (transition ts level s) := by
  obtain ⟨t, ht, hframe⟩ := transition_completes h ts level
  exact ⟨t, ht, h.settleReadsHeld.of_decoderOnly (transition_decoderOnly ht) hframe⟩

/-- A transaction's start leaves the settle's registers as they are or, entering `O_WAKE`, sets `phase_t0` (R111, R119). -/
theorem SettleReadsHeld.startTransaction (h : SettleReadsHeld s) (lerr : Bool) :
    SettleReadsHeld (startTransaction lerr s) := by
  obtain ⟨hframe, ht0, hprev⟩ := h
  obtain ⟨-, -, heq⟩ | ⟨-, heq⟩ := startTransaction_cases lerr s <;> rw [heq]
  · exact ⟨hframe, fun hphase => absurd rfl hphase, hprev⟩
  · exact ⟨hframe, fun _ => rfl, hprev⟩

theorem tickArm_ready (h : s.Inv) (lerr : Bool) : ReadyToSettle (tickArm lerr s) := by
  obtain ⟨hframe, ht0, hprev⟩ := h.settleReadsHeld
  obtain ⟨-, -, -, -, hne3, -⟩ := legal_iff.mp h.legal
  unfold tickArm
  cases hsch : s.schState with
  | run =>
    dsimp only
    split_ifs
    · have hbusy : SettleReadsHeld { s with schState := .busy } := ⟨hframe, ht0, hprev⟩
      exact ⟨_, rfl, hbusy.startTransaction lerr⟩
    · exact ⟨_, rfl, hframe, ht0, hprev⟩
  | busy | stopped => exact ⟨s, rfl, hframe, ht0, hprev⟩
  | reserved3 => exact absurd hsch hne3

theorem setNow_ready (h : s.Inv) (t : Time) : ReadyToSettle (.next (setNow t s)) := by
  obtain ⟨hframe, ht0, hprev⟩ := h.settleReadsHeld
  exact ⟨_, rfl, hframe, ht0, hprev⟩

theorem requestStop_ready (h : s.Inv) : ReadyToSettle (.next (requestStop s)) := by
  obtain ⟨hframe, ht0, hprev⟩ := h.settleReadsHeld
  exact ⟨_, rfl, hframe, ht0, hprev⟩

/-! ## The stimuli -/

theorem execTrans_completes (h : s.Inv) (ts : Time) (level : Bool) : ∃ t, exec (.trans ts level) s = .next t :=
  settled_completes h.legal (transition_ready h.freshLog ts level)

theorem execTime_completes (h : s.Inv) (t' : Time) (lerr : Bool) : ∃ t, exec (.time t' lerr) s = .next t :=
  settled_completes h.legal (p := fun u => .next (setNow t' u)) (setNow_ready h.freshLog t')

theorem execTick_completes (h : s.Inv) (lerr : Bool) : ∃ t, exec (.tick lerr) s = .next t :=
  settled_completes h.legal (tickArm_ready h.freshLog lerr)

theorem execStop_completes (h : s.Inv) : ∃ t, exec .stop s = .next t :=
  settled_completes h.legal (p := fun u => .next (requestStop u)) (requestStop_ready h.freshLog)

/-- On a sound state a word is refused or its stimulus completes. -/
theorem exec_decodeStim_completes (h : s.Inv) (w : StimWord) :
    decodeStim w = .refused w ∨ ∃ t, exec (decodeStim w) s = .next t := by
  obtain ⟨ts, level, hw⟩ | ⟨t', lerr, hw⟩ | ⟨lerr, hw⟩ | hw | hw | hw := decodeStim_cases w <;> rw [hw]
  · exact .inr (execTrans_completes h ts level)
  · exact .inr (execTime_completes h t' lerr)
  · exact .inr (execTick_completes h lerr)
  · exact .inr (execStop_completes h)
  · exact .inr ⟨resetRegisters s, rfl⟩
  · exact .inl rfl

/-- A word that spells a stimulus completes, as the stimulus and as STEP of the word. -/
theorem exec_stimulus_completes (h : s.Inv) {w : StimWord} (hw : spellsNothing w = false) :
    ∃ t, exec (decodeStim w) s = .next t ∧ exec (.step w) s = .next t := by
  obtain hrefused | ⟨t, ht⟩ := exec_decodeStim_completes h w
  · exact absurd ((decodeStim_eq_refused_iff w).mp hrefused) (by simp [hw])
  · exact ⟨t, ht, (execStep_eq w s).trans ht⟩

theorem step_ne_fault (h : s.Inv) (f : Fault) : step s ≠ .fault f := by
  cases hq : s.stimuli with
  | nil => simp [step_of_none hq]
  | cons w ws =>
    rw [step_of_stimulus hq]
    obtain hrefused | ⟨t, ht⟩ := exec_decodeStim_completes (h.withStimuli ws) w
    · rw [hrefused]; nofun
    · rw [ht]; nofun

end Sys2Proof.Machine

namespace Sys2Proof.Proofs

open Sys2Proof.Machine

/-- Settles O59: on a sound state each stimulus's own effect completes and leaves every register that the settle reads with a
value. -/
theorem soundStatesNeverFault : Obligations.SoundStatesNeverFault := by
  unfold Obligations.SoundStatesNeverFault
  intro s h
  exact ⟨fun _ => exec_stimulus_completes h, execTrans_completes h, execTime_completes h, execTick_completes h,
    execStop_completes h, fun lerr => execOrcEval_completes lerr h.settleReadsHeld, step_ne_fault h⟩

end Sys2Proof.Proofs
end

section
/-! Every step keeps the machine's invariant (10_state.md R45, R48; 30_encoding.md R69). The invariant falls into three parts,
each about the registers of one part of the block; every sub-step that a stimulus performs keeps them, and so the stimulus
does (R150). -/

namespace Sys2Proof.Machine

/-! ## The three parts of the invariant -/

/-- What the invariant says about the registers that the notification context writes (R49). -/
structure DecoderSound (s : State) : Prop where
  decState_legal : s.decState ≠ .reserved6 ∧ s.decState ≠ .reserved7
  byteIdx_legal : s.byteIdx.toNat < 6
  cursor_legal : s.decState = .awaitingBitHigh ∨ s.decState = .awaitingBitFalling → s.byteIdx.toNat ≤ 4
  done_idle : s.done = true → s.decState = .idle ∧ s.byteIdx = 5
  frame_held : s.decState ≠ .idle ∨ s.done = true → s.frame.isSome = true
  tsHigh_held : s.decState = .awaitingBitFalling → s.tsHigh.isSome = true

/-- What it says about the Reading, the baseline and the two counters (R33, R34). -/
structure DataSound (s : State) : Prop where
  prev_held : (s.prevT.isSome = true ↔ s.prevValid = true) ∧ (s.prevRh.isSome = true ↔ s.prevValid = true)
  reading_held : (s.rdT.isSome = true ↔ 1 ≤ s.accepted.toNat) ∧ (s.rdRh.isSome = true ↔ 1 ≤ s.accepted.toNat)
  baseline_iff : s.prevValid = true ↔ 1 ≤ s.accepted.toNat
  accepted_le : s.accepted.toNat ≤ s.attempts.toNat

/-- What it says about the phase of the transaction, the line and the scheduler (R28, R30, R37). That `line_mode` holds no
reserved code follows from `line_by_phase`. -/
structure ControlSound (s : State) : Prop where
  schState_legal : s.schState ≠ .reserved3
  lastStatus_legal : s.lastStatus ≠ .reserved7
  phaseT0_held : s.orcPhase ≠ .idle → s.phaseT0.isSome = true
  busy_iff : s.orcPhase ≠ .idle ↔ s.schState = .busy
  line_by_phase :
    (s.orcPhase = .idle ∨ s.orcPhase = .wait → s.lineMode = .read) ∧
      (s.orcPhase = .wake → s.lineMode = .high) ∧ (s.orcPhase = .start → s.lineMode = .low)
  stopped_requested : s.schState = .stopped → s.stopReq = true
  counted : s.AttemptCounted

variable {s t : State}

theorem ControlSound.lineMode_legal (h : ControlSound s) : s.lineMode ≠ .reserved3 := by
  obtain ⟨hread, hhigh, hlow⟩ := h.line_by_phase
  cases hphase : s.orcPhase with
  | idle => rw [hread (.inl hphase)]; nofun
  | wake => rw [hhigh hphase]; nofun
  | start => rw [hlow hphase]; nofun
  | wait => rw [hread (.inr hphase)]; nofun

/-- The invariant is the conjunction of its parts. -/
theorem inv_iff : s.Inv ↔ DecoderSound s ∧ DataSound s ∧ ControlSound s := by
  constructor
  · rintro ⟨hlegal, hvalues, hr45, hcounted⟩
    obtain ⟨hne6, hne7, hbyte, -, hsch, hstatus⟩ := legal_iff.mp hlegal
    exact ⟨⟨⟨hne6, hne7⟩, hbyte, hr45.cursor_legal, hr45.done_idle, hvalues.frame_held, hvalues.tsHigh_held⟩,
      ⟨hvalues.prev_held, hvalues.reading_held, hr45.baseline_iff, hr45.accepted_le⟩,
      ⟨hsch, hstatus, hvalues.phaseT0_held, hr45.busy_iff, hr45.line_by_phase, hr45.stopped_requested, hcounted⟩⟩
  · rintro ⟨hdec, hdata, hctl⟩
    exact ⟨legal_iff.mpr ⟨hdec.decState_legal.1, hdec.decState_legal.2, hdec.byteIdx_legal, hctl.lineMode_legal,
        hctl.schState_legal, hctl.lastStatus_legal⟩,
      ⟨hdec.frame_held, hdec.tsHigh_held, hctl.phaseT0_held, hdata.prev_held, hdata.reading_held⟩,
      ⟨hdec.cursor_legal, hdec.done_idle, hctl.busy_iff, hctl.line_by_phase, hdata.baseline_iff, hdata.accepted_le,
        hctl.stopped_requested⟩, hctl.counted⟩

/-- The registers that `DecoderSound` reads. -/
def decoderRegs (s : State) : DecState × BitVec 3 × Option Frame × Option Time × Bool :=
  (s.decState, s.byteIdx, s.frame, s.tsHigh, s.done)

/-- The registers that `DataSound` reads. -/
def dataRegs (s : State) :
    (Bool × Option Tenths × Option Tenths) × (Option Tenths × Option Tenths) × Count × Count :=
  ((s.prevValid, s.prevT, s.prevRh), (s.rdT, s.rdRh), s.attempts, s.accepted)

theorem DecoderSound.of_eq (h : DecoderSound s) (heq : decoderRegs t = decoderRegs s) : DecoderSound t := by
  simp only [decoderRegs, Prod.mk.injEq] at heq
  obtain ⟨hdec, hbyte, hframe, hts, hdone⟩ := heq
  obtain ⟨hlegal, hbyteLegal, hcursor, hidle, hframeHeld, htsHeld⟩ := h
  constructor <;> simpa only [hdec, hbyte, hframe, hts, hdone]

theorem DataSound.of_eq (h : DataSound s) (heq : dataRegs t = dataRegs s) : DataSound t := by
  simp only [dataRegs, Prod.mk.injEq] at heq
  obtain ⟨⟨hvalid, hpt, hprh⟩, ⟨hrdT, hrdRh⟩, hattempts, haccepted⟩ := heq
  obtain ⟨hprev, hreading, hbaseline, hle⟩ := h
  constructor <;> simpa only [hvalid, hpt, hprh, hrdT, hrdRh, hattempts, haccepted]

/-- The two parts outside the decoder do not read what the notification context writes. -/
theorem DataSound.of_decoderOnly (h : DataSound s) (hst : DecoderOnly s t) : DataSound t :=
  h.of_eq ((congrArg dataRegs (show t = _ from hst)).trans rfl)

theorem ControlSound.of_decoderOnly (h : ControlSound s) (hst : DecoderOnly s t) : ControlSound t := by
  obtain ⟨hsch, hstatus, ht0, hbusy, hline, hstop, hcounted⟩ := h
  rw [show t = _ from hst]
  exact ⟨hsch, hstatus, ht0, hbusy, hline, hstop, hcounted⟩

/-! ## The Edge Decoder (R90 to R99) -/

theorem DecoderSound.done_eq_false (h : DecoderSound s) (hdec : s.decState ≠ .idle) : s.done = false :=
  Bool.eq_false_iff.mpr fun hdone => hdec (h.done_idle hdone).1

/-- A decoder that receives bits is sound with the cursor in the frame, the frame cleared and no frame complete. -/
theorem DecoderSound.of_receiving (hlegal : s.decState ≠ .reserved6 ∧ s.decState ≠ .reserved7) (hbyte : s.byteIdx.toNat ≤ 4)
    (hframe : s.frame.isSome = true) (hdone : s.done = false)
    (hts : s.decState = .awaitingBitFalling → s.tsHigh.isSome = true) : DecoderSound s where
  decState_legal := hlegal
  byteIdx_legal := by omega
  cursor_legal _ := hbyte
  done_idle h := absurd h (by simp [hdone])
  frame_held _ := hframe
  tsHigh_held := hts

/-- A decoder with a complete frame is sound in `Idle` with the cursor at 5 (R99). -/
theorem DecoderSound.of_complete (hdec : s.decState = .idle) (hbyte : s.byteIdx = 5) (hframe : s.frame.isSome = true) :
    DecoderSound s where
  decState_legal := by simp [hdec]
  byteIdx_legal := by simp [hbyte]
  cursor_legal h := by simp [hdec] at h
  done_idle _ := ⟨hdec, hbyte⟩
  frame_held _ := hframe
  tsHigh_held h := by simp [hdec] at h

/-- The two rows that wait for the preamble's levels move the state alone (R92, R94). -/
theorem DecoderSound.awaitPreamble (h : DecoderSound s) (hdec : s.decState ≠ .idle) {d : DecState}
    (hd : d = .awaitingHigh ∨ d = .awaitingBitLow) : DecoderSound { s with decState := d } where
  decState_legal := by obtain rfl | rfl := hd <;> simp
  byteIdx_legal := h.byteIdx_legal
  cursor_legal h' := by obtain rfl | rfl := hd <;> simp at h'
  done_idle hdone := absurd hdone (by simp [h.done_eq_false hdec])
  frame_held _ := h.frame_held (.inl hdec)
  tsHigh_held h' := by obtain rfl | rfl := hd <;> simp at h'

theorem armDecoder_decoderSound (s : State) : DecoderSound (armDecoder s) :=
  .of_receiving (by simp) (by simp) rfl rfl (by simp)

theorem advanceCursor_decoderSound (hbyte : s.byteIdx.toNat ≤ 4) (hframe : s.frame.isSome = true) (hdone : s.done = false)
    (h : advanceCursor s = .next t) : DecoderSound t := by
  obtain ⟨-, -, rfl⟩ | ⟨-, hlt, rfl⟩ | ⟨-, -, rfl⟩ | ⟨-, h5, -⟩ := advanceCursor_eq_next h
  · exact .of_receiving (by simp) hbyte hframe hdone nofun
  · have hnext : (BitVec.ofNat 3 (s.byteIdx.toNat + 1)).toNat ≤ 4 := by
      rw [BitVec.toNat_ofNat]; omega
    exact .of_receiving (by simp) hnext hframe hdone nofun
  · exact .of_complete rfl rfl hframe
  · omega

/-- The falling edge stores its bit, or leaves it, into a frame that holds a value, and advances (R98). -/
theorem execDecAwaitBitFallL0_decoderSound (h : DecoderSound s) (hdec : s.decState = .awaitingBitFalling) {ts : Time}
    (ht : execDecAwaitBitFallL0 ts s = .next t) : DecoderSound t := by
  have hbyte := h.cursor_legal (.inr hdec)
  have hdone := h.done_eq_false (by simp [hdec])
  have hframe := h.frame_held (.inl (by simp [hdec]))
  obtain ⟨t0, -, ⟨-, hadv⟩ | ⟨-, -, F, -, hadv⟩⟩ := execDecAwaitBitFallL0_eq_next ht
  · exact advanceCursor_decoderSound hbyte hframe hdone hadv
  · exact advanceCursor_decoderSound (s := { s with frame := some (frameSetBit F s.byteIdx s.bitIdx) }) hbyte rfl hdone hadv

theorem transition_decoderSound (h : DecoderSound s) {ts : Time} {level : Bool} (ht : transition ts level s = .next t) :
    DecoderSound t := by
  unfold transition at ht
  cases hdec : s.decState <;> cases level <;> simp only [hdec] at ht
  case awaitingLow.false => cases ht; exact h.awaitPreamble (by simp [hdec]) (.inl rfl)
  case awaitingHigh.true => cases ht; exact h.awaitPreamble (by simp [hdec]) (.inr rfl)
  case awaitingBitLow.false =>
    cases ht
    exact .of_receiving (by simp) (by simp) rfl (h.done_eq_false (by simp [hdec])) nofun
  case awaitingBitHigh.true =>
    cases ht
    exact .of_receiving (by simp) (h.cursor_legal (.inl hdec)) (h.frame_held (.inl (by simp [hdec])))
      (h.done_eq_false (by simp [hdec])) fun _ => rfl
  case awaitingBitFalling.false => exact execDecAwaitBitFallL0_decoderSound h hdec ht
  case reserved6.false | reserved6.true | reserved7.false | reserved7.true => cases ht
  all_goals cases ht; exact h

theorem transition_keeps_inv (h : s.Inv) {ts : Time} {level : Bool} (ht : transition ts level s = .next t) : t.Inv := by
  obtain ⟨hdec, hdata, hctl⟩ := inv_iff.mp h
  have hst := transition_decoderOnly ht
  exact inv_iff.mpr ⟨transition_decoderSound hdec ht, hdata.of_decoderOnly hst, hctl.of_decoderOnly hst⟩

/-! ## The counters (R34) -/

/-- Counting an attempt leaves it above the acceptances, or saturates. -/
theorem lt_satInc_or_saturated {a c : Count} (h : a.toNat ≤ c.toNat) :
    a.toNat < (satInc c).toNat ∨ (satInc c).toNat = 2 ^ 32 - 1 := by
  rw [satInc_toNat]; omega

/-- An acceptance does not overtake an attempt that is already counted. -/
theorem satInc_le_of_counted {a c : Count} (h : a.toNat < c.toNat ∨ c.toNat = 2 ^ 32 - 1) : (satInc a).toNat ≤ c.toNat := by
  rw [satInc_toNat]; omega

theorem DataSound.countAttempt (h : DataSound s) : DataSound { s with attempts := satInc s.attempts } :=
  ⟨h.prev_held, h.reading_held, h.baseline_iff, h.accepted_le.trans (le_satInc s.attempts)⟩

/-! ## The Validator (R130) -/

theorem setBaseline_acceptReading_dataSound (hcounted : s.accepted.toNat < s.attempts.toNat ∨ s.attempts.toNat = 2 ^ 32 - 1)
    (T H : Int) : DataSound (acceptReading T H (setBaseline T H s)) where
  prev_held := by simp
  reading_held := by simp [one_le_satInc s.accepted]
  baseline_iff := by simp [one_le_satInc s.accepted]
  accepted_le := satInc_le_of_counted hcounted

/-- VALIDATE's writes keep the Reading, the baseline and the counters sound, the transaction's attempt being counted: a frame is
rejected as implausible only where a baseline is (R130, R137). -/
theorem applyVerdict_dataSound (h : DataSound s)
    (hcounted : s.accepted.toNat < s.attempts.toNat ∨ s.attempts.toNat = 2 ^ 32 - 1) {v : Verdict} (hv : judge s = .ok v) :
    DataSound (applyVerdict v s) := by
  have haccept := setBaseline_acceptReading_dataSound hcounted
  obtain ⟨F, -, ⟨-, rfl⟩ | ⟨-, ⟨hvalid, rfl⟩ | rfl⟩⟩ := judge_eq_ok hv
  · exact h.of_eq rfl
  · have hbase : 1 ≤ s.accepted.toNat := h.baseline_iff.mp hvalid
    exact ⟨by simp [applyVerdict], h.reading_held, by simpa [applyVerdict] using hbase, h.accepted_le⟩
  · unfold acceptance
    split_ifs <;> exact (haccept _ _).of_eq rfl

/-- VALIDATE's writes leave the phase, the line and the decoder alone, and record a status with a legal code. -/
theorem applyVerdict_control (v : Verdict) (s : State) :
    (applyVerdict v s).orcPhase = s.orcPhase ∧ (applyVerdict v s).lineMode = s.lineMode ∧
      (applyVerdict v s).lastStatus ≠ .reserved7 ∧ decoderRegs (applyVerdict v s) = decoderRegs s := by
  cases v <;> exact ⟨rfl, rfl, nofun, rfl⟩

/-! ## The transaction's start, phases and ends (R111 to R119, R154) -/

theorem ControlSound.lineMode_of_wait (h : ControlSound s) (hphase : s.orcPhase = .wait) : s.lineMode = .read :=
  h.line_by_phase.1 (.inr hphase)

/-- Whatever ended the transaction, TXN_END leaves `O_IDLE` with a scheduler that is not busy (R154). -/
theorem ControlSound.of_endTransaction (hphase : s.orcPhase = .idle) (hline : s.lineMode = .read)
    (hstatus : s.lastStatus ≠ .reserved7) (o : TxnOutcome) : ControlSound (endTransaction o s) where
  schState_legal := by simp only [endTransaction_schState]; split_ifs <;> nofun
  lastStatus_legal := hstatus
  phaseT0_held h := absurd hphase h
  busy_iff := by simp only [endTransaction_orcPhase, endTransaction_schState, hphase]; split_ifs <;> simp
  line_by_phase := by simp [hphase, hline]
  stopped_requested := by simp only [endTransaction_schState, endTransaction_stopReq]; split_ifs with hstop <;> simp [hstop]
  counted h := absurd hphase h

/-- A phase in flight: the scheduler is busy, the phase's start is recorded and its attempt counted. -/
theorem ControlSound.of_inFlight (hphase : s.orcPhase ≠ .idle) (hbusy : s.schState = .busy)
    (hstatus : s.lastStatus ≠ .reserved7) (ht0 : s.phaseT0.isSome = true)
    (hline : (s.orcPhase = .wait → s.lineMode = .read) ∧ (s.orcPhase = .wake → s.lineMode = .high) ∧
      (s.orcPhase = .start → s.lineMode = .low))
    (hcounted : s.accepted.toNat < s.attempts.toNat ∨ s.attempts.toNat = 2 ^ 32 - 1) : ControlSound s where
  schState_legal := by simp [hbusy]
  lastStatus_legal := hstatus
  phaseT0_held _ := ht0
  busy_iff := by simp [hphase, hbusy]
  line_by_phase := by simpa [hphase] using hline
  stopped_requested h := by simp [hbusy] at h
  counted _ := hcounted

/-- An Orchestrator error ends the transaction soundly, the line being in read mode (R170, R175). -/
theorem ControlSound.of_raiseError (hline : s.lineMode = .read) {st : Status} (hstatus : st ≠ .reserved7) (o : TxnOutcome) :
    ControlSound (raiseError st o s) :=
  .of_endTransaction (s := { s with lastStatus := st, orcPhase := .idle }) rfl hline hstatus o

/-- A LineError ends the transaction soundly, whatever the phase it was in (R119). -/
theorem lineError_controlSound (s : State) : ControlSound (lineError s) :=
  .of_raiseError rfl (by simp) _

theorem lineError_inv (hdec : DecoderSound s) (hdata : DataSound s) : (lineError s).Inv :=
  inv_iff.mpr ⟨hdec.of_eq rfl, hdata.of_eq rfl, lineError_controlSound s⟩

theorem timeoutError_inv (h : s.Inv) (hphase : s.orcPhase = .wait) : (timeoutError s).Inv := by
  obtain ⟨hdec, hdata, hctl⟩ := inv_iff.mp h
  exact inv_iff.mpr ⟨hdec.of_eq rfl, hdata.of_eq rfl, .of_raiseError (hctl.lineMode_of_wait hphase) (by simp) _⟩

/-- TXN_START on a sound state in `S_RUN`, entered with the scheduler already busy (R153, R111). -/
theorem startTransaction_inv (h : s.Inv) (lerr : Bool) : (startTransaction lerr { s with schState := .busy }).Inv := by
  obtain ⟨hdec, hdata, hctl⟩ := inv_iff.mp h
  obtain ⟨-, -, heq⟩ | ⟨-, heq⟩ := startTransaction_cases lerr { s with schState := .busy } <;> rw [heq]
  · exact lineError_inv (hdec.of_eq rfl) (hdata.countAttempt.of_eq rfl)
  · exact inv_iff.mpr ⟨hdec.of_eq rfl, hdata.countAttempt.of_eq rfl,
      .of_inFlight nofun rfl hctl.lastStatus_legal rfl ⟨nofun, fun _ => rfl, nofun⟩ (lt_satInc_or_saturated hdata.accepted_le)⟩

theorem endWakeHold_inv (h : s.Inv) (hphase : s.orcPhase = .wake) (lerr : Bool) : (endWakeHold lerr s).Inv := by
  obtain ⟨hdec, hdata, hctl⟩ := inv_iff.mp h
  have hflight : s.orcPhase ≠ .idle := by simp [hphase]
  obtain ⟨-, -, heq⟩ | ⟨-, heq⟩ := endWakeHold_cases lerr s <;> rw [heq]
  · exact lineError_inv (hdec.of_eq rfl) (hdata.of_eq rfl)
  · exact inv_iff.mpr ⟨hdec.of_eq rfl, hdata.of_eq rfl,
      .of_inFlight nofun (hctl.busy_iff.mp hflight) hctl.lastStatus_legal rfl ⟨nofun, nofun, fun _ => rfl⟩
        (hctl.counted hflight)⟩

theorem endStartHold_inv (h : s.Inv) (hphase : s.orcPhase = .start) (lerr : Bool) : (endStartHold lerr s).Inv := by
  obtain ⟨hdec, hdata, hctl⟩ := inv_iff.mp h
  have hflight : s.orcPhase ≠ .idle := by simp [hphase]
  obtain ⟨-, -, heq⟩ | ⟨-, heq⟩ := endStartHold_cases lerr s <;> rw [heq]
  · exact lineError_inv (hdec.of_eq rfl) (hdata.of_eq rfl)
  · exact inv_iff.mpr ⟨(armDecoder_decoderSound s).of_eq rfl, hdata.of_eq rfl,
      .of_inFlight nofun (hctl.busy_iff.mp hflight) hctl.lastStatus_legal rfl ⟨fun _ => rfl, nofun, nofun⟩
        (hctl.counted hflight)⟩

/-- TXN_COMPLETE: the hand-off, VALIDATE's writes and TXN_END (R117). -/
theorem concludeFrame_inv (h : s.Inv) (hphase : s.orcPhase = .wait) {F : Frame} {v : Verdict}
    (hv : judge (handOff F s) = .ok v) : (endTransaction (verdictOutcome v) (applyVerdict v (handOff F s))).Inv := by
  obtain ⟨hdec, hdata, hctl⟩ := inv_iff.mp h
  obtain ⟨hidle, hline, hstatus, hregs⟩ := applyVerdict_control v (handOff F s)
  have hdata' : DataSound (handOff F s) := hdata.of_eq rfl
  exact inv_iff.mpr ⟨hdec.of_eq hregs,
    (applyVerdict_dataSound hdata' (hctl.counted (by simp [hphase])) hv).of_eq rfl,
    .of_endTransaction hidle (hline.trans (hctl.lineMode_of_wait hphase)) hstatus _⟩

/-! ## The sub-steps of a stimulus (R150) -/

theorem execOrcEval_keeps_inv (h : s.Inv) {lerr : Bool} (ht : execOrcEval lerr s = .next t) : t.Inv := by
  obtain ⟨rfl, -⟩ | ⟨_, hphase, -, -, rfl⟩ | ⟨_, hphase, -, -, rfl⟩ | ⟨F, v, hphase, -, -, hv, rfl⟩ |
    ⟨_, hphase, -, -, -, rfl⟩ := execOrcEval_eq_next ht
  · exact h
  · exact endWakeHold_inv h hphase lerr
  · exact endStartHold_inv h hphase lerr
  · exact concludeFrame_inv h hphase hv
  · exact timeoutError_inv h hphase

theorem countdown_inv (h : s.Inv) (r : DelayTicks) : { s with remaining := r }.Inv := by
  obtain ⟨hdec, hdata, ⟨hsch, hstatus, ht0, hbusy, hline, hstop, hcounted⟩⟩ := inv_iff.mp h
  exact inv_iff.mpr ⟨hdec.of_eq rfl, hdata.of_eq rfl, ⟨hsch, hstatus, ht0, hbusy, hline, hstop, hcounted⟩⟩

theorem tickArm_keeps_inv (h : s.Inv) {lerr : Bool} (ht : tickArm lerr s = .next t) : t.Inv := by
  obtain ⟨-, -, rfl⟩ | ⟨-, -, rfl⟩ | ⟨-, rfl⟩ := tickArm_eq_next ht
  · exact startTransaction_inv h lerr
  · exact countdown_inv h _
  · exact h

theorem setNow_inv (h : s.Inv) (t' : Time) : (setNow t' s).Inv := by
  obtain ⟨hdec, hdata, ⟨hsch, hstatus, ht0, hbusy, hline, hstop, hcounted⟩⟩ := inv_iff.mp h
  exact inv_iff.mpr ⟨hdec.of_eq rfl, hdata.of_eq rfl, ⟨hsch, hstatus, ht0, hbusy, hline, hstop, hcounted⟩⟩

/-- A STOP stops a scheduler that is in `S_RUN` and leaves one that is busy so; the request is latched in both (R158). -/
theorem requestStop_inv (h : s.Inv) : (requestStop s).Inv := by
  obtain ⟨hdec, hdata, ⟨hsch, hstatus, ht0, hbusy, hline, hstop, hcounted⟩⟩ := inv_iff.mp h
  have hbusy' : (requestStop s).schState = .busy ↔ s.schState = .busy := by
    by_cases hrun : s.schState = .run <;> simp [hrun]
  have hsch' : (requestStop s).schState ≠ .reserved3 := by
    by_cases hrun : s.schState = .run <;> simp [hrun, hsch]
  exact inv_iff.mpr ⟨hdec.of_eq rfl, hdata.of_eq rfl,
    ⟨hsch', hstatus, ht0, hbusy.trans hbusy'.symm, hline, fun _ => rfl, hcounted⟩⟩

/-- RESET sets every register that the invariant reads to its value of R47. -/
theorem resetRegisters_inv (s : State) : (resetRegisters s).Inv := by
  refine inv_iff.mpr ⟨?_, ?_, ?_⟩ <;> constructor <;> simp [State.AttemptCounted]

/-! ## The stimuli and the step -/

/-- A stimulus whose own effect keeps the invariant keeps it. -/
theorem settled_keeps_inv {lerr : Bool} {p : State → Result} (hp : ∀ u v : State, u.Inv → p u = .next v → v.Inv)
    (h : s.Inv) (ht : settled lerr p s = .next t) : t.Inv := by
  obtain ⟨-, u, hu, hsettle⟩ := settled_eq_next_iff.mp ht
  exact execOrcEval_keeps_inv (hp _ u h.freshLog hu) hsettle

theorem exec_decodeStim_keeps_inv (h : s.Inv) (w : StimWord) (ht : exec (decodeStim w) s = .next t) : t.Inv := by
  obtain ⟨ts, level, hw⟩ | ⟨t', lerr, hw⟩ | ⟨lerr, hw⟩ | hw | hw | hw := decodeStim_cases w <;> rw [hw] at ht
  · exact settled_keeps_inv (fun _ _ hu => transition_keeps_inv hu) h ht
  · exact settled_keeps_inv (p := fun u => .next (setNow t' u)) (fun _ _ hu hv => by cases hv; exact setNow_inv hu t') h ht
  · exact settled_keeps_inv (fun _ _ hu => tickArm_keeps_inv hu) h ht
  · exact settled_keeps_inv (p := fun u => .next (requestStop u)) (fun _ _ hu hv => by cases hv; exact requestStop_inv hu) h ht
  · cases ht; exact resetRegisters_inv s
  · cases ht

theorem step_keeps_inv (h : s.Inv) (ht : step s = .next t) : t.Inv := by
  obtain ⟨w, ws, -, hexec⟩ := step_eq_next_iff.mp ht
  exact exec_decodeStim_keeps_inv (h.withStimuli ws) w hexec

theorem resetWith_inv (c : Config) : (State.resetWith c).Inv := resetRegisters_inv (State.resetWith c)

theorem Reaches.inv (hst : Reaches s t) (h : s.Inv) : t.Inv := by
  induction hst with
  | refl => exact h
  | step _ hstep ih => exact step_keeps_inv ih hstep

end Sys2Proof.Machine

namespace Sys2Proof.Proofs

open Sys2Proof.Machine

/-- Settles O57: each sub-step of a stimulus keeps the three parts of the invariant. -/
theorem stepKeepsInvariant : Obligations.StepKeepsInvariant := by
  unfold Obligations.StepKeepsInvariant
  exact fun _ _ => step_keeps_inv

/-- Settles O56: reset leaves no transaction in flight, no frame, no Reading and no baseline. -/
theorem resetIsSound : Obligations.ResetIsSound := by
  unfold Obligations.ResetIsSound
  exact ⟨resetWith_inv, resetWith_inv Config.standard⟩

/-- Settles O58, by induction on the steps from reset. -/
theorem reachedStatesAreSound : Obligations.ReachedStatesAreSound := by
  unfold Obligations.ReachedStatesAreSound
  intro c ws t hreach
  exact hreach.inv ((resetWith_inv c).withStimuli _)

end Sys2Proof.Proofs
end

section
/-! What the Edge Decoder leaves alone (10_state.md R49), that neither counter falls (10_state.md R34), each sub-step of a
stimulus leaving both or incrementing one, and the output that the second counter gives (10_state.md R41). -/

namespace Sys2Proof.Machine

/-- With no transaction in flight the settle changes nothing (R114). -/
theorem execOrcEval_of_idle {s : State} (hphase : s.orcPhase = .idle) (lerr : Bool) : execOrcEval lerr s = .next s := by
  simp [execOrcEval, hphase, execOrcIdle]

theorem DecoderOnly.orcPhase_eq {s t : State} (h : DecoderOnly s t) : t.orcPhase = s.orcPhase :=
  (congrArg (·.orcPhase) (show t = _ from h)).trans rfl

theorem DecoderOnly.log_eq {s t : State} (h : DecoderOnly s t) : t.log = s.log :=
  (congrArg (·.log) (show t = _ from h)).trans rfl

/-! ## The counters (R34) -/

/-- Neither counter of `t` is below that of `s`. -/
def CountersLe (s t : State) : Prop := s.attempts.toNat ≤ t.attempts.toNat ∧ s.accepted.toNat ≤ t.accepted.toNat

variable {s t u : State}

theorem CountersLe.of_eq (hattempts : t.attempts = s.attempts) (haccepted : t.accepted = s.accepted) : CountersLe s t :=
  ⟨by rw [hattempts], by rw [haccepted]⟩

theorem CountersLe.trans (hsu : CountersLe s u) (hut : CountersLe u t) : CountersLe s t :=
  ⟨hsu.1.trans hut.1, hsu.2.trans hut.2⟩

theorem DecoderOnly.countersLe (h : DecoderOnly s t) : CountersLe s t :=
  .of_eq ((congrArg (·.attempts) (show t = _ from h)).trans rfl) ((congrArg (·.accepted) (show t = _ from h)).trans rfl)

/-- An acceptance increments `accepted`; every other verdict leaves both counters (R130, R138). -/
theorem applyVerdict_countersLe (v : Verdict) : CountersLe s (applyVerdict v s) := by
  cases v with
  | checksumError | plausibilityError => exact .of_eq rfl rfl
  | acceptedFirst | accepted => exact ⟨le_rfl, le_satInc s.accepted⟩

/-- A transaction's start counts its attempt, whether its line operation fails or not (R111). -/
theorem startTransaction_countersLe (lerr : Bool) : CountersLe s (startTransaction lerr s) := by
  obtain ⟨-, -, heq⟩ | ⟨-, heq⟩ := startTransaction_cases lerr s <;> rw [heq] <;> exact ⟨le_satInc s.attempts, le_rfl⟩

theorem endWakeHold_countersLe (lerr : Bool) : CountersLe s (endWakeHold lerr s) := by
  obtain ⟨-, -, heq⟩ | ⟨-, heq⟩ := endWakeHold_cases lerr s <;> rw [heq] <;> exact .of_eq rfl rfl

theorem endStartHold_countersLe (lerr : Bool) : CountersLe s (endStartHold lerr s) := by
  obtain ⟨-, -, heq⟩ | ⟨-, heq⟩ := endStartHold_cases lerr s <;> rw [heq] <;> exact .of_eq rfl rfl

theorem execOrcEval_countersLe {lerr : Bool} (ht : execOrcEval lerr s = .next t) : CountersLe s t := by
  obtain ⟨rfl, -⟩ | ⟨_, -, -, -, rfl⟩ | ⟨_, -, -, -, rfl⟩ | ⟨F, v, -, -, -, -, rfl⟩ | ⟨_, -, -, -, -, rfl⟩ :=
    execOrcEval_eq_next ht
  · exact .of_eq rfl rfl
  · exact endWakeHold_countersLe lerr
  · exact endStartHold_countersLe lerr
  · exact applyVerdict_countersLe (s := handOff F s) v
  · exact .of_eq rfl rfl

theorem tickArm_countersLe {lerr : Bool} (ht : tickArm lerr s = .next t) : CountersLe s t := by
  obtain ⟨-, -, rfl⟩ | ⟨-, -, rfl⟩ | ⟨-, rfl⟩ := tickArm_eq_next ht
  · exact startTransaction_countersLe (s := { s with schState := .busy }) lerr
  · exact .of_eq rfl rfl
  · exact .of_eq rfl rfl

/-- A stimulus whose own effect lets neither counter fall lets neither fall. -/
theorem settled_countersLe {lerr : Bool} {p : State → Result} (hp : ∀ u v : State, p u = .next v → CountersLe u v)
    (ht : settled lerr p s = .next t) : CountersLe s t := by
  obtain ⟨-, u, hu, hsettle⟩ := settled_eq_next_iff.mp ht
  exact CountersLe.trans (hp (freshLog s) u hu) (execOrcEval_countersLe hsettle)

theorem exec_countersLe {i : Instr} (hi : settles i = true) (ht : exec i s = .next t) : CountersLe s t := by
  cases i with
  | trans ts level => exact settled_countersLe (fun _ _ hu => (transition_decoderOnly hu).countersLe) ht
  | time t' lerr =>
    exact settled_countersLe (p := fun u => .next (setNow t' u)) (fun _ _ hu => by cases hu; exact .of_eq rfl rfl) ht
  | tick lerr => exact settled_countersLe (fun _ _ hu => tickArm_countersLe hu) ht
  | stop =>
    exact settled_countersLe (p := fun u => .next (requestStop u)) (fun _ _ hu => by cases hu; exact .of_eq rfl rfl) ht
  | _ => cases hi

end Sys2Proof.Machine

namespace Sys2Proof.Proofs

open Sys2Proof.Machine

/-- Settles O19: the rows are ignored, move the decoder, or store a bit and advance the cursor. -/
theorem decoderRowsWriteOnlyDecoderState : Obligations.DecoderRowsWriteOnlyDecoderState := by
  unfold Obligations.DecoderRowsWriteOnlyDecoderState
  exact fun _ _ _ hrow h => exec_decoderOnly hrow h

/-- Settles O20: the transition completes, writes the decoder's registers alone, and the settle in `O_IDLE` changes nothing. -/
theorem idleTransWritesOnlyDecoderState : Obligations.IdleTransWritesOnlyDecoderState := by
  unfold Obligations.IdleTransWritesOnlyDecoderState
  intro s ts level h hphase
  obtain ⟨t, ht, -⟩ := transition_completes h.freshLog ts level
  have hframe : DecoderOnly (freshLog s) t := transition_decoderOnly ht
  have hsettle : execOrcEval false t = .next t := execOrcEval_of_idle (hframe.orcPhase_eq.trans hphase) false
  exact ⟨t, settled_eq_next_iff.mpr ⟨h.legal, t, ht, hsettle⟩, hframe.log_eq, hframe⟩

/-- Settles O49: the stimulus's own effect and the settle each leave a counter or increment it, and the increment saturates. -/
theorem countersNeverFall : Obligations.CountersNeverFall := by
  unfold Obligations.CountersNeverFall
  exact fun _ _ _ hi h => exec_countersLe hi h

/-- Settles O52. -/
theorem dataValidFromTwoAcceptances : Obligations.DataValidFromTwoAcceptances := by
  unfold Obligations.DataValidFromTwoAcceptances
  intro s
  simp [observe, dataValid]

end Sys2Proof.Proofs
end

section
/-! Operations that commute with a change of registers which they neither read nor write. No operation of a stimulus uses the
words still to come, so the step is R21's function of the block's record (43_scheduler.md R150); and the cursor's advance does
not use the frame, which tells what a bit's store does into a frame without a value (40_decoder.md R98, 10_state.md R48). -/

namespace Sys2Proof.Machine

/-- The answer `r`, with `f` applied to the next state where there is one. -/
def mapNext (f : State → State) (r : Result) : Result := andThen r fun t => .next (f t)

/-- Changing the state by `f` before `p` answers as changing it after. -/
def Commutes (f : State → State) (p : State → Result) : Prop := ∀ s, p (f s) = mapNext f (p s)

variable {f : State → State}

theorem andThen_mapNext {k : State → Result} (hk : Commutes f k) (r : Result) :
    andThen (mapNext f r) k = mapNext f (andThen r k) := by
  cases r with
  | next t => exact hk t
  | fault | refused => rfl

/-! ## The Edge Decoder (R98) -/

theorem execDecAwaitBitFallL0_of_none {s : State} (h : s.tsHigh = none) (ts : Time) :
    execDecAwaitBitFallL0 ts s = .fault (.noValue .tsHigh) := by
  simp [execDecAwaitBitFallL0, h]

theorem execDecAwaitBitFallL0_of_some {s : State} {t0 : Time} (h : s.tsHigh = some t0) (ts : Time) :
    execDecAwaitBitFallL0 ts s =
      andThen (storeBit (longPulse s.cfg ts t0) (Config.unwrittenFrame ts t0 s.byteIdx s.bitIdx) s) advanceCursor := by
  simp [execDecAwaitBitFallL0, h]

/-- The state with another frame. -/
def withFrame (F : Option Frame) (s : State) : State := { s with frame := F }

/-- The state with other words to come. -/
def withStimuli (ws : List StimWord) (s : State) : State := { s with stimuli := ws }

theorem advanceCursor_withFrame (F : Option Frame) : Commutes (withFrame F) advanceCursor := by
  intro s
  unfold advanceCursor
  simp only [apply_ite (mapNext (withFrame F))]
  rfl

variable {ws : List StimWord}

theorem advanceCursor_withStimuli : Commutes (withStimuli ws) advanceCursor := by
  intro s
  unfold advanceCursor
  simp only [apply_ite (mapNext (withStimuli ws))]
  rfl

theorem storeBit_withStimuli (long : Bool) (U : Frame) : Commutes (withStimuli ws) (storeBit long U) := by
  intro s
  unfold storeBit
  simp only [apply_ite (mapNext (withStimuli ws))]
  rfl

theorem execDecAwaitBitFallL0_withStimuli (ts : Time) : Commutes (withStimuli ws) (execDecAwaitBitFallL0 ts) := by
  intro s
  cases hts : s.tsHigh with
  | none => rw [execDecAwaitBitFallL0_of_none hts, execDecAwaitBitFallL0_of_none (s := withStimuli ws s) hts]; rfl
  | some t0 =>
    rw [execDecAwaitBitFallL0_of_some hts, execDecAwaitBitFallL0_of_some (s := withStimuli ws s) hts,
      ← andThen_mapNext advanceCursor_withStimuli, ← storeBit_withStimuli]
    rfl

theorem transition_withStimuli (ts : Time) (level : Bool) : Commutes (withStimuli ws) (transition ts level) := by
  intro s
  have hsame : (withStimuli ws s).decState = s.decState := rfl
  unfold transition
  rw [hsame]
  cases s.decState <;> cases level
  case awaitingBitFalling.false => exact execDecAwaitBitFallL0_withStimuli ts s
  all_goals rfl

/-! ## The Orchestrator and the TICK arms (R111 to R117, R151 to R153) -/

theorem emitOrFail_withStimuli {k : State → State} (hk : ∀ u, k (withStimuli ws u) = withStimuli ws (k u)) (op : LineOp)
    (lerr : Bool) (s : State) : emitOrFail op lerr (withStimuli ws s) k = withStimuli ws (emitOrFail op lerr s k) := by
  have hsame : lineResult (withStimuli ws s).log lerr false = lineResult s.log lerr false := rfl
  unfold emitOrFail
  rw [hsame]
  cases lineResult s.log lerr false with
  | ok => exact hk (emitLineOp op lerr false s)
  | err => rfl

theorem startTransaction_withStimuli (lerr : Bool) (s : State) :
    startTransaction lerr (withStimuli ws s) = withStimuli ws (startTransaction lerr s) :=
  emitOrFail_withStimuli (by exact fun _ => rfl) .driveHigh lerr { s with attempts := satInc s.attempts }

theorem endWakeHold_withStimuli (lerr : Bool) (s : State) :
    endWakeHold lerr (withStimuli ws s) = withStimuli ws (endWakeHold lerr s) :=
  emitOrFail_withStimuli (by exact fun _ => rfl) .driveLow lerr s

theorem endStartHold_withStimuli (lerr : Bool) (s : State) :
    endStartHold lerr (withStimuli ws s) = withStimuli ws (endStartHold lerr s) :=
  emitOrFail_withStimuli (by exact fun _ => rfl) .driveHigh lerr s

theorem applyVerdict_withStimuli (v : Verdict) (s : State) :
    applyVerdict v (withStimuli ws s) = withStimuli ws (applyVerdict v s) := by
  cases v <;> rfl

theorem concludeFrame_withStimuli : Commutes (withStimuli ws) concludeFrame := by
  intro s
  have hsame : judge (withStimuli ws s) = judge s := rfl
  unfold concludeFrame
  rw [hsame]
  cases judge s with
  | error => rfl
  | ok v =>
    exact congrArg (fun u => Host.Outcome.next (endTransaction (verdictOutcome v) u)) (applyVerdict_withStimuli v s)

theorem execTxnComplete_withStimuli : Commutes (withStimuli ws) execTxnComplete := by
  intro s
  have hsame : (withStimuli ws s).frame = s.frame := rfl
  unfold execTxnComplete
  rw [hsame]
  cases s.frame with
  | none => rfl
  | some F => exact concludeFrame_withStimuli (handOff F s)

theorem execOrcWake_withStimuli (lerr : Bool) : Commutes (withStimuli ws) (execOrcWake lerr) := by
  intro s
  have hsame : (withStimuli ws s).phaseT0 = s.phaseT0 := rfl
  unfold execOrcWake
  rw [hsame]
  cases s.phaseT0 with
  | none => rfl
  | some t0 => simp only [apply_ite (mapNext (withStimuli ws)), endWakeHold_withStimuli]; rfl

theorem execOrcStart_withStimuli (lerr : Bool) : Commutes (withStimuli ws) (execOrcStart lerr) := by
  intro s
  have hsame : (withStimuli ws s).phaseT0 = s.phaseT0 := rfl
  unfold execOrcStart
  rw [hsame]
  cases s.phaseT0 with
  | none => rfl
  | some t0 => simp only [apply_ite (mapNext (withStimuli ws)), endStartHold_withStimuli]; rfl

theorem execOrcWait_withStimuli : Commutes (withStimuli ws) execOrcWait := by
  intro s
  have hsame : (withStimuli ws s).phaseT0 = s.phaseT0 := rfl
  unfold execOrcWait
  rw [hsame, execTxnComplete_withStimuli s]
  cases s.phaseT0 <;> simp only [apply_ite (mapNext (withStimuli ws))] <;> rfl

theorem execOrcEval_withStimuli (lerr : Bool) : Commutes (withStimuli ws) (execOrcEval lerr) := by
  intro s
  have hsame : (withStimuli ws s).orcPhase = s.orcPhase := rfl
  unfold execOrcEval
  rw [hsame]
  cases s.orcPhase with
  | idle => rfl
  | wake => exact execOrcWake_withStimuli lerr s
  | start => exact execOrcStart_withStimuli lerr s
  | wait => exact execOrcWait_withStimuli s

theorem tickArm_withStimuli (lerr : Bool) : Commutes (withStimuli ws) (tickArm lerr) := by
  intro s
  have hsame : (withStimuli ws s).schState = s.schState := rfl
  have hstart : execTickStart lerr (withStimuli ws s) = mapNext (withStimuli ws) (execTickStart lerr s) :=
    congrArg Host.Outcome.next (startTransaction_withStimuli lerr { s with schState := .busy })
  unfold tickArm
  rw [hsame, hstart]
  cases s.schState with
  | run => simp only [apply_ite (mapNext (withStimuli ws))]; rfl
  | busy | stopped | reserved3 => rfl

/-! ## The stimuli and the step (R150) -/

theorem settled_withStimuli {p : State → Result} (hp : Commutes (withStimuli ws) p) (lerr : Bool) :
    Commutes (withStimuli ws) (settled lerr p) := by
  intro s
  have hsame : reservedFound (withStimuli ws s) = reservedFound s := rfl
  unfold settled guardReserved
  rw [hsame]
  cases reservedFound s with
  | some x => rfl
  | none =>
    dsimp only
    rw [← andThen_mapNext (execOrcEval_withStimuli lerr), ← hp (freshLog s)]
    rfl

/-- A step's stimulus neither reads nor writes the words still to come. -/
theorem execStep_withStimuli (w : StimWord) : Commutes (withStimuli ws) (execStep w) := by
  intro s
  rw [execStep_eq, execStep_eq]
  obtain ⟨ts, level, h⟩ | ⟨t, lerr, h⟩ | ⟨lerr, h⟩ | h | h | h := decodeStim_cases w <;> rw [h]
  · exact settled_withStimuli (transition_withStimuli ts level) false s
  · exact settled_withStimuli (p := fun s => .next (setNow t s)) (fun _ => rfl) lerr s
  · exact settled_withStimuli (tickArm_withStimuli lerr) lerr s
  · exact settled_withStimuli (p := fun s => .next (requestStop s)) (fun _ => rfl) false s
  · rfl
  · rfl

/-- A step performs its word on the block, with no word to come, and leaves the words to come behind it. -/
theorem step_eq_mapNext {s : State} {w : StimWord} (h : s.stimuli = w :: ws) :
    step s = mapNext (withStimuli ws) (exec (.step w) { toBlock := s.toBlock, cfg := s.cfg, stimuli := [] }) := by
  rw [step_of_stimulus h, ← execStep_eq]
  exact execStep_withStimuli w { toBlock := s.toBlock, cfg := s.cfg, stimuli := [] }

/-! ## Reads of registers that hold no value (R48) -/

theorem longPulse_iff {cfg : Config} {ts t0 : Time} : longPulse cfg ts t0 = true ↔ cfg.tBitUs < (ts - t0).toNat := by
  simp [longPulse, elapsed, wrapsub, zext]

/-- A long pulse into a frame without a value is one into the frame of the free value (R98, R54; log entry 9). -/
theorem execDecAwaitBitFallL0_long {s : State} {ts t0 : Time} (hts : s.tsHigh = some t0) (hframe : s.frame = none)
    (hlong : longPulse s.cfg ts t0 = true) :
    execDecAwaitBitFallL0 ts s =
      execDecAwaitBitFallL0 ts { s with frame := some (Config.unwrittenFrame ts t0 s.byteIdx s.bitIdx) } := by
  rw [execDecAwaitBitFallL0_of_some hts, execDecAwaitBitFallL0_of_some (t0 := t0) (by exact hts)]
  simp [hlong, storeBit, hframe]

/-- A short pulse advances the cursor and stores nothing (R98). -/
theorem execDecAwaitBitFallL0_short {s : State} {ts t0 : Time} (hts : s.tsHigh = some t0)
    (hshort : longPulse s.cfg ts t0 = false) : execDecAwaitBitFallL0 ts s = advanceCursor s := by
  rw [execDecAwaitBitFallL0_of_some hts, hshort]
  rfl

/-- A short pulse into a frame without a value does what it does into the frame `F`, but leaves the frame without one. -/
theorem execDecAwaitBitFallL0_short_noFrame {s t : State} {ts t0 : Time} (hts : s.tsHigh = some t0) (hframe : s.frame = none)
    (hshort : longPulse s.cfg ts t0 = false) (F : Frame)
    (ht : execDecAwaitBitFallL0 ts (withFrame (some F) s) = .next t) :
    execDecAwaitBitFallL0 ts s = .next (withFrame none t) := by
  have hs : s = withFrame none (withFrame (some F) s) := congrArg (withFrame · s) hframe
  rw [execDecAwaitBitFallL0_short (s := withFrame (some F) s) hts hshort] at ht
  calc execDecAwaitBitFallL0 ts s = advanceCursor s := execDecAwaitBitFallL0_short hts hshort
    _ = advanceCursor (withFrame none (withFrame (some F) s)) := congrArg advanceCursor hs
    _ = mapNext (withFrame none) (advanceCursor (withFrame (some F) s)) := advanceCursor_withFrame none _
    _ = .next (withFrame none t) := by rw [ht]; rfl

theorem execOrcWake_of_none {s : State} (h : s.phaseT0 = none) (lerr : Bool) :
    execOrcWake lerr s = .fault (.noValue .phaseT0) := by
  simp [execOrcWake, h]

theorem execOrcStart_of_none {s : State} (h : s.phaseT0 = none) (lerr : Bool) :
    execOrcStart lerr s = .fault (.noValue .phaseT0) := by
  simp [execOrcStart, h]

theorem execOrcWait_of_none {s : State} (h : s.phaseT0 = none) (hdone : s.done = false) :
    execOrcWait s = .fault (.noValue .phaseT0) := by
  simp [execOrcWait, h, hdone]

theorem execTxnComplete_of_none {s : State} (h : s.frame = none) : execTxnComplete s = .fault (.noValue .frame) := by
  simp [execTxnComplete, h]

theorem execValidate_of_noFrame {s : State} (h : s.rxFrame = none) : execValidate s = .fault (.noValue .rxFrame) := by
  simp [execValidate, judge, h]

section
variable {s : State} {F : Frame} (hF : s.rxFrame = some F) (hsum : checksumOk F = true) (hvalid : s.prevValid = true)
include hF hsum hvalid

/-- VALIDATE reads the baseline's temperature first (R130, R135). -/
theorem execValidate_of_noPrevT (h : s.prevT = none) : execValidate s = .fault (.noValue .prevT) := by
  simp [execValidate, judge, hF, hsum, hvalid, h]

theorem execValidate_of_noPrevRh (hT : s.prevT.isSome = true) (h : s.prevRh = none) :
    execValidate s = .fault (.noValue .prevRh) := by
  obtain ⟨pt, hpt⟩ := Option.isSome_iff_exists.mp hT
  simp [execValidate, judge, hF, hsum, hvalid, hpt, h]

end

end Sys2Proof.Machine

namespace Sys2Proof.Proofs

open Sys2Proof.Machine

/-- Settles O60: the stimulus commutes with putting the rest of the queue back, and it writes no configuration. -/
theorem stepIsTheBlocksStep : Obligations.StepIsTheBlocksStep := by
  unfold Obligations.StepIsTheBlocksStep
  intro s w ws hq
  rw [step_eq_mapNext hq]
  unfold blockStep
  cases hexec : exec (.step w) { toBlock := s.toBlock, cfg := s.cfg, stimuli := [] } with
  | fault | refused => rfl
  | next t =>
    obtain ⟨hcfg, -⟩ := surroundings_eq_iff.mp (keeps_exec _ (.step w) t hexec)
    change Host.Outcome.next ({ toBlock := t.toBlock, cfg := t.cfg, stimuli := ws } : State) = _
    rw [hcfg]

/-- Settles O17: each reading operation's own case of R48, and for the last clause that the advance after a bit's store neither
reads nor writes the frame. -/
theorem readOfNoValueFaults : Obligations.ReadOfNoValueFaults := by
  unfold Obligations.ReadOfNoValueFaults
  intro s
  refine ⟨execDecAwaitBitFallL0_of_none, fun h lerr => ⟨execOrcWake_of_none h lerr, execOrcStart_of_none h lerr⟩,
    execOrcWait_of_none, execTxnComplete_of_none, execValidate_of_noFrame,
    fun F hF hsum hvalid => ⟨execValidate_of_noPrevT hF hsum hvalid, execValidate_of_noPrevRh hF hsum hvalid⟩,
    fun ts t0 hts hframe hbyte => ⟨fun hlong => ?_, fun hshort => ?_⟩⟩
  · have heq := execDecAwaitBitFallL0_long hts hframe (longPulse_iff.mpr hlong)
    obtain ⟨t, ht, -⟩ := execDecAwaitBitFallL0_completes
      (s := { s with frame := some (Config.unwrittenFrame ts t0 s.byteIdx s.bitIdx) }) ts (by simp [hts]) hbyte rfl
    exact ⟨_, t, heq.trans ht, ht⟩
  · have hshort' : longPulse s.cfg ts t0 = false := by
      rw [← Bool.not_eq_true, longPulse_iff]; omega
    obtain ⟨t, ht, -⟩ := advanceCursor_completes (s := withFrame (some 0) s) hbyte
    have ht0 := (execDecAwaitBitFallL0_short (s := withFrame (some 0) s) hts hshort').trans ht
    exact ⟨t, ht0, execDecAwaitBitFallL0_short_noFrame hts hframe hshort' 0 ht0⟩

end Sys2Proof.Proofs
end

section
/-! The stimulus words and the internal keys are a code of the rows (30_encoding.md R72 to R79): a word is the encoding of its
five fields, so decoding and encoding are inverse to each other, and the words left over are the refused ones (R74). -/

namespace Sys2Proof.Machine

open Sys2Proof.Laws

/-! ## The fields of an encoded word (R72) -/

section
variable (kind : BitVec 4) (lerr level : Bool) (value : BitVec 32)

@[simp] theorem stimKind_stimWord : stimKind (stimWord kind lerr level value) = kind := by
  apply BitVec.eq_of_getLsbD_eq
  intro i hi
  simp [stimKind, stimWord_getLsbD, hi, show ¬ 36 + i < 32 by omega, show 36 + i ≠ 32 by omega, show 36 + i ≠ 33 by omega]

@[simp] theorem stimRsv_stimWord : stimRsv (stimWord kind lerr level value) = 0#2 := by
  apply BitVec.eq_of_getLsbD_eq
  intro i hi
  simp [stimRsv, stimWord_getLsbD, show ¬ 34 + i < 32 by omega, show 34 + i ≠ 32 by omega, show 34 + i ≠ 33 by omega,
    show 34 + i < 36 by omega]

@[simp] theorem stimLerr_stimWord : stimLerr (stimWord kind lerr level value) = lerr :=
  (stimWord_getLsbD kind lerr level value 33).trans rfl

@[simp] theorem stimLevel_stimWord : stimLevel (stimWord kind lerr level value) = level :=
  (stimWord_getLsbD kind lerr level value 32).trans rfl

@[simp] theorem stimValue_stimWord : stimValue (stimWord kind lerr level value) = value := by
  apply BitVec.eq_of_getLsbD_eq
  intro i hi
  simp [stimValue, stimWord_getLsbD, hi]

end

/-- A word whose reserved bits are 0 is the encoding of its other four fields: no bit is dropped. -/
theorem stimWord_eq_of_fields {w : StimWord} {kind : BitVec 4} {lerr level : Bool} {value : BitVec 32}
    (hrsv : stimRsv w = 0#2) (hkind : (stimKind w).toNat = kind.toNat) (hlerr : stimLerr w = lerr)
    (hlevel : stimLevel w = level) (hvalue : stimValue w = value) : stimWord kind lerr level value = w := by
  have hbits : (w.getLsbD 34 || w.getLsbD 35) = false := by rw [← stimRsv_bne_zero]; simp [hrsv]
  obtain ⟨h34, h35⟩ := Bool.or_eq_false_iff.mp hbits
  obtain rfl : stimKind w = kind := BitVec.eq_of_toNat_eq hkind
  subst hlerr hlevel hvalue
  apply BitVec.eq_of_getLsbD_eq
  intro i hi
  rw [stimWord_getLsbD]
  split_ifs with hvalue hlevel hlerr hreserved
  · simp [stimValue, hvalue]
  · simp [stimLevel, hlevel]
  · simp [stimLerr, hlerr]
  · obtain rfl | rfl : i = 34 ∨ i = 35 := by omega
    · exact h34.symm
    · exact h35.symm
  · simp [stimKind, show i - 36 < 4 by omega, show 36 + (i - 36) = i by omega]

/-! ## Decoding an encoded stimulus (R73) -/

theorem decodeStim_transWord (ts : Time) (level : Bool) : decodeStim (stimWord 1 false level ts) = .trans ts level := by
  simp [decodeStim]

theorem decodeStim_timeWord (t : Time) (lerr : Bool) : decodeStim (stimWord 2 lerr false t) = .time t lerr := by
  simp [decodeStim]

theorem decodeStim_tickWord (lerr : Bool) : decodeStim (stimWord 3 lerr false 0) = .tick lerr := by
  simp [decodeStim]

theorem decodeStim_stopWord : decodeStim (stimWord 4 false false 0) = .stop := by
  simp [decodeStim]

theorem decodeStim_resetWord : decodeStim (stimWord 5 false false 0) = .reset := by
  simp [decodeStim]

/-- Decoding inverts encoding on every well-formed row: the stimuli by their words' fields, REFUSED by R74's conditions, and
the internal rows by their keys. -/
theorem decode_encode {i : Instr} {c : Code} (hwf : i.WellFormed = true) (hc : encode i = some c) : decode c = i := by
  cases i with
  | trans ts level => cases hc; exact decodeStim_transWord ts level
  | time t lerr => cases hc; exact decodeStim_timeWord t lerr
  | tick lerr => cases hc; exact decodeStim_tickWord lerr
  | stop => cases hc; exact decodeStim_stopWord
  | reset => cases hc; exact decodeStim_resetWord
  | refused w => cases hc; exact (decodeStim_eq_refused_iff w).mpr hwf
  | decIdle level => cases hc; cases level <;> rfl
  | decReserved code level =>
    have hcode : code = 6#3 ∨ code = 7#3 := by simpa [Instr.WellFormed] using hwf
    cases hc
    obtain rfl | rfl := hcode <;> cases level <;> rfl
  | tickBusy remZero | tickStopped remZero | tickReserved remZero => cases hc; cases remZero <;> rfl
  | decAwaitLowL0 | decAwaitLowL1 | decAwaitHighL0 | decAwaitHighL1 | decAwaitBitLowL0 | decAwaitBitLowL1
  | decAwaitBitHighL0 | decAwaitBitHighL1 | decAwaitBitFallL0 | decAwaitBitFallL1 | decComplete => cases hc; rfl
  | orcIdle | orcWake | orcStart | orcWait | tickCountdown | tickStart => cases hc; rfl
  | step | orcEval | arm | txnStart | txnComplete | txnTimeout | txnLineError | lineOp | validate | txnEnd => cases hc

/-! ## Encoding a decoded word or key -/

theorem decodeStim_wellFormed (w : StimWord) : (decodeStim w).WellFormed = true := by
  obtain ⟨ts, level, h⟩ | ⟨t, lerr, h⟩ | ⟨lerr, h⟩ | h | h | h := decodeStim_cases w
  case inr.inr.inr.inr.inr => rw [h]; exact (decodeStim_eq_refused_iff w).mp h
  all_goals rw [h]; rfl

/-- Every word decodes to a row whose word it is: a refused one by definition, any other since the fields that its kind does not
use are 0 (R74). -/
theorem encodeStim_decodeStim (w : StimWord) : encodeStim (decodeStim w) = some w := by
  unfold decodeStim
  split
  · rfl
  next hrsv =>
    rw [ne_eq, not_not] at hrsv
    split
    case h_1 hkind =>
      split_ifs with hlerr
      · rfl
      · exact congrArg some (stimWord_eq_of_fields hrsv hkind (by simpa using hlerr) rfl rfl)
    case h_2 hkind =>
      split_ifs with hlevel
      · rfl
      · exact congrArg some (stimWord_eq_of_fields hrsv hkind rfl (by simpa using hlevel) rfl)
    case h_3 hkind =>
      split_ifs with hused
      · rfl
      · obtain ⟨hlevel, hvalue⟩ : stimLevel w = false ∧ stimValue w = 0#32 := by simpa using hused
        exact congrArg some (stimWord_eq_of_fields hrsv hkind rfl hlevel hvalue)
    case h_4 hkind | h_5 hkind =>
      split_ifs with hused
      · rfl
      · obtain ⟨hlerr, hlevel, hvalue⟩ : stimLerr w = false ∧ stimLevel w = false ∧ stimValue w = 0#32 := by
          simpa using hused
        exact congrArg some (stimWord_eq_of_fields hrsv hkind hlerr hlevel hvalue)
    case h_6 => rfl

theorem encode_decodeDec (key : BitVec 4) :
    (decodeDec key 0 false).WellFormed = true ∧ encode (decodeDec key 0 false) = some (.dec key 0 false) := by
  revert key; decide

theorem encode_decodeOrc (key : BitVec 2) :
    (decodeOrc key false).WellFormed = true ∧ encode (decodeOrc key false) = some (.orc key false) := by
  revert key; decide

theorem encode_decodeTick (key : BitVec 3) :
    (decodeTick key false).WellFormed = true ∧ encode (decodeTick key false) = some (.tick key false) := by
  revert key; decide

/-! ## Refused words (R74) -/

theorem exec_decodeStim_of_spellsNothing {w : StimWord} (hw : spellsNothing w = true) (s : State) :
    exec (decodeStim w) s = .refused (.illFormedWord (whyRefused w)) := by
  rw [(decodeStim_eq_refused_iff w).mpr hw]
  rfl

theorem step_of_spellsNothing {s : State} {w : StimWord} {ws : List StimWord} (hq : s.stimuli = w :: ws)
    (hw : spellsNothing w = true) : step s = .refused (.illFormedWord (whyRefused w)) := by
  rw [step_of_stimulus hq, exec_decodeStim_of_spellsNothing hw]

theorem advance_of_illFormedWord {s : State} {why : BadWord} (h : step s = .refused (.illFormedWord why)) :
    advance s = markRefusal (dropStimulus s) := by
  simp [advance, h]

end Sys2Proof.Machine

namespace Sys2Proof.Proofs

open Sys2Proof.Machine

/-- Settles O1, by cases on the row. -/
theorem decodeEncodeAgree : Obligations.DecodeEncodeAgree := by
  unfold Obligations.DecodeEncodeAgree
  exact fun _ _ => decode_encode

/-- Settles O2: a word that is not refused is the encoding of its fields, and the keys are finitely many. -/
theorem everyCodeEncodesBack : Obligations.EveryCodeEncodesBack := by
  unfold Obligations.EveryCodeEncodesBack
  exact ⟨fun w => ⟨decodeStim_wellFormed w, encodeStim_decodeStim w⟩, encode_decodeDec, encode_decodeOrc,
    encode_decodeTick⟩

/-- Settles O3: the decoder's tests are R74's conditions in the word's fields, and a refused word is dropped with the refusal
marked. -/
theorem refusedExactlyIllFormed : Obligations.RefusedExactlyIllFormed := by
  unfold Obligations.RefusedExactlyIllFormed
  refine ⟨decodeStim_eq_refused_iff, fun w s hw => ⟨⟨whyRefused w, ?_⟩, whyRefused w, rfl⟩, fun w ws s hq hw => ?_⟩
  · exact (execStep_eq w s).trans (exec_decodeStim_of_spellsNothing hw s)
  · have hstep := step_of_spellsNothing hq hw
    refine ⟨⟨whyRefused w, hstep⟩, ?_⟩
    rw [advance_of_illFormedWord hstep]
    simp [markRefusal, dropStimulus, hq]

/-- Settles O4: each word of the table is its statement's encoding, or meets a condition of R74. -/
theorem exampleWordsDecode : Obligations.ExampleWordsDecode := by
  unfold Obligations.ExampleWordsDecode
  exact ⟨decodeStim_transWord 2830 false, decodeStim_transWord 2910 true, decodeStim_timeWord 2000 false,
    decodeStim_timeWord 2000 true, decodeStim_tickWord false, decodeStim_tickWord true, decodeStim_stopWord,
    decodeStim_resetWord, (decodeStim_eq_refused_iff _).mpr (by decide), (decodeStim_eq_refused_iff _).mpr (by decide),
    (decodeStim_eq_refused_iff _).mpr (by decide)⟩

end Sys2Proof.Proofs
end

section
/-! What a stimulus reads before and beside its own effect: the reserved codes that stop it (30_encoding.md R69), the key that
selects a TICK's arm (R78), and the line-error draw, which it uses only where it issues a line operation (R80). -/

namespace Sys2Proof.Machine

/-! ## The TICK's arm (R78) -/

/-- The arm that a TICK performs is the row of its key, one row for each scheduler mode and each value of the key's bit 0. -/
theorem tickArm_eq_exec_decodeTick (lerr : Bool) (s : State) :
    tickArm lerr s = exec (decodeTick (tickKey s.schState (s.remaining == 0)) lerr) s := by
  unfold tickArm
  cases s.schState with
  | run =>
    by_cases hrem : s.remaining = 0
    · simp only [hrem, if_true]; rfl
    · simp only [hrem, if_false, beq_eq_false_iff_ne.mpr hrem]; rfl
  | busy | stopped | reserved3 => cases s.remaining == 0 <;> rfl

/-! ## Reserved codes (R69, R104) -/

theorem rule_of_reservedFound {s : State} {f : Fault} (h : reservedFound s = some f) : f.rule = 69 ∨ f.rule = 104 := by
  unfold reservedFound at h
  split_ifs at h <;> cases h
  · exact .inr rfl
  all_goals exact .inl rfl

/-- A stimulus that settles looks for reserved codes first, and faults where it finds one. -/
theorem settled_of_not_legal {s : State} (h : ¬ s.Legal) (lerr : Bool) (p : State → Result) :
    ∃ f, settled lerr p s = .fault f ∧ (f.rule = 69 ∨ f.rule = 104) := by
  obtain ⟨f, hf⟩ := Option.ne_none_iff_exists'.mp h
  exact ⟨f, by simp [settled, guardReserved, hf], rule_of_reservedFound hf⟩

theorem exec_of_not_legal {i : Instr} {s : State} (hi : settles i = true) (h : ¬ s.Legal) :
    ∃ f, exec i s = .fault f ∧ (f.rule = 69 ∨ f.rule = 104) := by
  cases i with
  | trans ts level => exact settled_of_not_legal h false (transition ts level)
  | time t lerr => exact settled_of_not_legal h lerr fun u => .next (setNow t u)
  | tick lerr => exact settled_of_not_legal h lerr (tickArm lerr)
  | stop => exact settled_of_not_legal h false fun u => .next (requestStop u)
  | _ => cases hi

/-! ## The line-error draw (R80, R120) -/

/-- An operation whose answer depends on the line-error draw only where it leaves an entry in the step's log: if without the
error it completes with an empty log, it answers the same with it. -/
def DrawUnused (p : Bool → State → Result) : Prop :=
  ∀ s t : State, p false s = .next t → t.log = [] → p true s = .next t

theorem startTransaction_log_ne_nil (s : State) : (startTransaction false s).log ≠ [] := by
  obtain ⟨hlerr, -⟩ | ⟨-, heq⟩ := startTransaction_cases false s
  · cases hlerr
  · simp [heq]

theorem endWakeHold_log_ne_nil (lerr : Bool) (s : State) : (endWakeHold lerr s).log ≠ [] := by
  obtain ⟨-, -, heq⟩ | ⟨-, heq⟩ := endWakeHold_cases lerr s <;> simp [heq, lineError, raiseError]

theorem endStartHold_log_ne_nil (lerr : Bool) (s : State) : (endStartHold lerr s).log ≠ [] := by
  obtain ⟨-, -, heq⟩ | ⟨-, heq⟩ := endStartHold_cases lerr s <;> simp [heq, lineError, raiseError]

theorem applyVerdict_log (v : Verdict) (s : State) : (applyVerdict v s).log = s.log := by
  cases v <;> rfl

/-- The settle removes no entry from the step's log. -/
theorem log_eq_nil_of_execOrcEval {lerr : Bool} {s t : State} (ht : execOrcEval lerr s = .next t) (hlog : t.log = []) :
    s.log = [] := by
  obtain ⟨rfl, -⟩ | ⟨_, -, -, -, rfl⟩ | ⟨_, -, -, -, rfl⟩ | ⟨F, v, -, -, -, -, rfl⟩ | ⟨_, -, -, -, -, rfl⟩ :=
    execOrcEval_eq_next ht
  · exact hlog
  · exact absurd hlog (endWakeHold_log_ne_nil lerr s)
  · exact absurd hlog (endStartHold_log_ne_nil lerr s)
  · exact (applyVerdict_log v (handOff F s)).symm.trans hlog
  · exact hlog

theorem execOrcWake_drawUnused : DrawUnused execOrcWake := by
  intro s t ht hlog
  cases ht0 : s.phaseT0 with
  | none => rw [execOrcWake_of_none ht0] at ht; cases ht
  | some t0 =>
    simp only [execOrcWake, ht0] at ht ⊢
    split_ifs at ht ⊢
    · cases ht; exact absurd hlog (endWakeHold_log_ne_nil false s)
    · exact ht

theorem execOrcStart_drawUnused : DrawUnused execOrcStart := by
  intro s t ht hlog
  cases ht0 : s.phaseT0 with
  | none => rw [execOrcStart_of_none ht0] at ht; cases ht
  | some t0 =>
    simp only [execOrcStart, ht0] at ht ⊢
    split_ifs at ht ⊢
    · cases ht; exact absurd hlog (endStartHold_log_ne_nil false s)
    · exact ht

theorem execOrcEval_drawUnused : DrawUnused execOrcEval := by
  intro s t ht hlog
  unfold execOrcEval at ht ⊢
  cases hphase : s.orcPhase <;> simp only [hphase] at ht ⊢
  case wake => exact execOrcWake_drawUnused s t ht hlog
  case start => exact execOrcStart_drawUnused s t ht hlog
  all_goals exact ht

theorem tickArm_drawUnused : DrawUnused tickArm := by
  intro s t ht hlog
  unfold tickArm at ht ⊢
  cases hsch : s.schState <;> simp only [hsch] at ht ⊢
  case run =>
    split_ifs at ht ⊢
    · cases ht; exact absurd hlog (startTransaction_log_ne_nil { s with schState := .busy })
    · exact ht
  all_goals exact ht

/-- A stimulus whose own effect uses the draw only for a line operation uses it only for one: the settle would keep the entry
of the effect's operation. -/
theorem settled_drawUnused {p : Bool → State → Result} (hp : DrawUnused p) :
    DrawUnused fun lerr => settled lerr (p lerr) := by
  intro s t ht hlog
  obtain ⟨hlegal, u, hu, hsettle⟩ := settled_eq_next_iff.mp ht
  have hulog : u.log = [] := log_eq_nil_of_execOrcEval hsettle hlog
  exact settled_eq_next_iff.mpr ⟨hlegal, u, hp _ u hu hulog, execOrcEval_drawUnused u t hsettle hlog⟩

end Sys2Proof.Machine

namespace Sys2Proof.Proofs

open Sys2Proof.Machine

/-- Settles O8: on a state without reserved codes a TICK is its arm on a fresh log and the settle, and the arm is its key's
row. -/
theorem tickRunsItsKeysArmThenSettles : Obligations.TickRunsItsKeysArmThenSettles := by
  unfold Obligations.TickRunsItsKeysArmThenSettles
  intro s lerr h
  have hsettled : exec (.tick lerr) s = andThen (tickArm lerr (freshLog s)) (execOrcEval lerr) := settled_of_legal h lerr _
  exact hsettled.trans (congrArg (andThen · (execOrcEval lerr)) (tickArm_eq_exec_decodeTick lerr (freshLog s)))

/-- Settles O35: neither the stimulus's own effect nor the settle uses the draw where it issues no line operation. -/
theorem lineErrorDrawUnusedHasNoEffect : Obligations.LineErrorDrawUnusedHasNoEffect := by
  unfold Obligations.LineErrorDrawUnusedHasNoEffect
  exact ⟨fun s u t => settled_drawUnused (p := fun _ v => .next (setNow t v)) (fun _ _ ht _ => ht) s u,
    settled_drawUnused tickArm_drawUnused⟩

/-- Settles O44: every stimulus but RESET looks for a reserved code before its own effect. -/
theorem reservedCodesFault : Obligations.ReservedCodesFault := by
  unfold Obligations.ReservedCodesFault
  exact ⟨fun _ _ => rfl, fun _ _ => exec_of_not_legal⟩

end Sys2Proof.Proofs
end

section
/-! The length of SENDFRAME's expansion (30_encoding.md R82, R83): each statement is assembled while its timestamp fits 32 bits,
and each bit of the frame adds two words and at most 120 microseconds. -/

namespace Sys2Proof.Machine

theorem asmTrans_of_lt {ts level : Nat} (hts : ts < 2 ^ 32) (hlevel : level ≤ 1) :
    asmTrans ts level = some (stimWord 1 false (level == 1) (BitVec.ofNat 32 ts)) := if_pos ⟨hts, hlevel⟩

theorem asmTrans_of_ge {ts : Nat} (hts : 2 ^ 32 ≤ ts) (level : Nat) : asmTrans ts level = none :=
  if_neg fun h => by omega

theorem asmHipulse_length {s w : Nat} (h : s + w < 2 ^ 32) : ∃ ws, asmHipulse s w = some ws ∧ ws.length = 2 := by
  unfold asmHipulse
  rw [asmTrans_of_lt (by omega) le_rfl, asmTrans_of_lt h (by omega)]
  exact ⟨_, rfl, rfl⟩

/-- Two words for each bit, while the latest end that the bits can have fits 32 bits. -/
theorem asmBits_length {bits : List Nat} (hbits : ∀ v ∈ bits, v ≤ 1) {c : Nat} (hc : c + 120 * bits.length < 2 ^ 32) :
    ∃ ws, asmBits c bits = some ws ∧ ws.length = 2 * bits.length := by
  induction bits generalizing c with
  | nil => exact ⟨[], rfl, rfl⟩
  | cons v vs ih =>
    obtain ⟨hv, hvs⟩ := List.forall_mem_cons.mp hbits
    rw [List.length_cons] at hc
    have hwidth : (if v = 0 then 22 else 70) ≤ 70 := by split_ifs <;> omega
    obtain ⟨pulse, hpulse, hpulseLen⟩ := asmHipulse_length (s := c + 50) (w := if v = 0 then 22 else 70) (by omega)
    obtain ⟨rest, hrest, hrestLen⟩ := ih hvs (c := c + 50 + if v = 0 then 22 else 70) (by omega)
    refine ⟨pulse ++ rest, ?_, ?_⟩
    · simp only [asmBits, if_pos hv, hpulse, hrest]
    · rw [List.length_append, hpulseLen, hrestLen, List.length_cons]; omega

theorem byteBits_length (b : Nat) : (byteBits b).length = 8 := rfl

theorem le_one_of_mem_byteBits {b v : Nat} (h : v ∈ byteBits b) : v ≤ 1 := by
  simp only [byteBits, List.mem_cons, List.not_mem_nil, or_false] at h
  omega

theorem length_flatMap_byteBits (bytes : List Nat) : (bytes.flatMap byteBits).length = 8 * bytes.length := by
  simp [List.length_flatMap, byteBits_length, Nat.mul_comm]

theorem le_one_of_mem_flatMap_byteBits {bytes : List Nat} : ∀ v ∈ bytes.flatMap byteBits, v ≤ 1 := by
  intro v hv
  obtain ⟨b, -, hb⟩ := List.mem_flatMap.mp hv
  exact le_one_of_mem_byteBits hb

/-- Three words before the bits, and two for each bit. -/
theorem asmFrame_length {s : Nat} {bytes : List Nat} (hbytes : ∀ b ∈ bytes, b < 256)
    (hs : s + 160 + 120 * (8 * bytes.length) < 2 ^ 32) :
    ∃ ws, asmFrame s bytes = some ws ∧ ws.length = 3 + 16 * bytes.length := by
  obtain ⟨ws, hws, hlen⟩ := asmBits_length (c := s + 160) le_one_of_mem_flatMap_byteBits
    (by rwa [length_flatMap_byteBits])
  have hlow := asmTrans_of_lt (ts := s) (level := 0) (by omega) (by omega)
  have hhigh := asmTrans_of_lt (ts := s + 80) (level := 1) (by omega) le_rfl
  have hfirst := asmTrans_of_lt (ts := s + 160) (level := 0) (by omega) (by omega)
  have hinRange : bytes.all (· < 256) = true := by simpa using hbytes
  rw [length_flatMap_byteBits] at hlen
  unfold asmFrame
  rw [if_pos hinRange, hlow, hhigh, hfirst, hws]
  exact ⟨_, rfl, by simp only [List.length_cons, hlen]; omega⟩

theorem asmFrame_of_start_ge {s : Nat} (hs : 2 ^ 32 ≤ s) (bytes : List Nat) : asmFrame s bytes = none := by
  simp [asmFrame, asmTrans_of_ge hs]

theorem asmFrame_of_byte_ge {bytes : List Nat} (h : ∃ b ∈ bytes, 256 ≤ b) (s : Nat) : asmFrame s bytes = none :=
  if_neg (by simpa using h)

end Sys2Proof.Machine

namespace Sys2Proof.Proofs

open Sys2Proof.Machine

/-- Settles O5: five bytes are forty bits, which take 80 words after the first three. -/
theorem sendFrameExpandsToEightyThree : Obligations.SendFrameExpandsToEightyThree := by
  unfold Obligations.SendFrameExpandsToEightyThree
  refine ⟨fun s b0 b1 b2 b3 b4 h0 h1 h2 h3 h4 hs => ?_, fun s bytes hs => asmFrame_of_start_ge hs bytes,
    fun s bytes h => asmFrame_of_byte_ge h s⟩
  exact asmFrame_length (by simp [h0, h1, h2, h3, h4]) hs

end Sys2Proof.Proofs
end

section
/-! The Edge Decoder's rows (40_decoder.md R90 to R105): the row that a transition performs, the bit that a falling edge stores,
and how the cursor moves. -/

namespace Sys2Proof.Machine

/-! ## The row of a key (R76, R91) -/

/-- The row that a transition performs is the row of its key, one for each decoder state and each level. -/
theorem transition_eq_exec_decodeDec (ts : Time) (level : Bool) (s : State) :
    transition ts level s = exec (decodeDec (decKey s.decState level) ts false) s := by
  unfold transition
  cases s.decState <;> cases level <;> rfl

theorem transition_of_row {s : State} {d : DecState} (hdec : s.decState = d) (ts : Time) (level : Bool) :
    transition ts level s = exec (decodeDec (decKey d level) ts false) s := by
  rw [transition_eq_exec_decodeDec, hdec]

/-! ## Reserved codes (R104) -/

theorem execTrans_of_reserved {s : State} (h : s.decState = .reserved6 ∨ s.decState = .reserved7) (ts : Time)
    (level : Bool) : exec (.trans ts level) s = .fault .reservedDecState := by
  have hfound : reservedFound s = some .reservedDecState := if_pos h
  simp only [exec, execTrans, settled, guardReserved, hfound]

theorem advance_of_fault {s : State} {f : Fault} (h : step s = .fault f) : advance s = markFault f (dropStimulus s) := by
  simp [advance, h]

/-! ## The bit threshold (R105) -/

/-- The width is the difference of the two timestamps modulo 2^32. -/
theorem longPulse_iff_mod {cfg : Config} {ts t0 : Time} :
    longPulse cfg ts t0 = true ↔ cfg.tBitUs < (ts.toNat + 2 ^ 32 - t0.toNat) % 2 ^ 32 := by
  have ht0 := t0.isLt
  rw [longPulse, decide_eq_true_iff, elapsed_eq, Nat.add_sub_assoc ht0.le]

/-- Wherever on the time base it starts, a pulse of width `w` is long exactly if `w` exceeds the threshold. -/
theorem longPulse_add (cfg : Config) (t0 w : Time) : longPulse cfg (t0 + w) t0 = decide (cfg.tBitUs < w.toNat) := by
  have hwidth : t0 + w - t0 = w := add_sub_cancel_left t0 w
  rw [Bool.eq_iff_iff, longPulse_iff, hwidth, decide_eq_true_iff]

/-! ## The falling edge (R98, R99) -/

/-- The frame after the store of a bit: the cursor's bit set by a long pulse, left alone by a short one. -/
def storedFrame (long : Bool) (F : Frame) (byteIdx bitIdx : BitVec 3) : Frame :=
  if long then frameSetBit F byteIdx bitIdx else F

theorem storedFrame_getLsbD (long : Bool) (F : Frame) (b i : BitVec 3) (n : Nat) :
    (storedFrame long F b i).getLsbD n = (F.getLsbD n || (decide (n = cursorBit b i) && long)) := by
  cases long
  · simp [storedFrame]
  · simp [storedFrame, frameSetBit_getLsbD]

variable {s t : State}

/-- With both registers that it uses holding a value and the cursor in the frame, a falling edge stores its bit and advances. -/
theorem execDecAwaitBitFallL0_of_held {t0 : Time} {F : Frame} (hts : s.tsHigh = some t0) (hF : s.frame = some F)
    (hbyte : s.byteIdx.toNat ≤ 4) (ts : Time) :
    execDecAwaitBitFallL0 ts s =
      advanceCursor (withFrame (some (storedFrame (longPulse s.cfg ts t0) F s.byteIdx s.bitIdx)) s) := by
  rw [execDecAwaitBitFallL0_of_some hts]
  cases longPulse s.cfg ts t0 with
  | false => exact congrArg advanceCursor (congrArg (fun G => withFrame G s) hF)
  | true =>
    rw [storeBit_eq_next_iff.mpr (.inr ⟨rfl, hbyte, rfl⟩), hF]
    rfl

/-- Within a byte the cursor goes to the next lower bit. -/
theorem advanceCursor_within (hbyte : s.byteIdx.toNat ≤ 4) (hbit : s.bitIdx ≠ 0) :
    advanceCursor s = .next { s with bitIdx := s.bitIdx - 1, decState := .awaitingBitHigh } := by
  obtain ⟨t, ht, -⟩ := advanceCursor_completes hbyte
  obtain ⟨-, -, rfl⟩ | ⟨h0, -⟩ | ⟨h0, -⟩ | ⟨-, h5, -⟩ := advanceCursor_eq_next ht
  · exact ht
  · exact absurd h0 hbit
  · exact absurd h0 hbit
  · omega

/-- From a byte's lowest bit it goes to the next byte's highest. -/
theorem advanceCursor_nextByte (hbyte : s.byteIdx.toNat < 4) (hbit : s.bitIdx = 0) :
    advanceCursor s = .next { s with byteIdx := s.byteIdx + 1, bitIdx := 7, decState := .awaitingBitHigh } := by
  have hnext : BitVec.ofNat 3 (s.byteIdx.toNat + 1) = s.byteIdx + 1 := by bv_omega
  obtain ⟨t, ht, -⟩ := advanceCursor_completes hbyte.le
  obtain ⟨hne, -⟩ | ⟨-, -, rfl⟩ | ⟨-, h4, -⟩ | ⟨-, h5, -⟩ := advanceCursor_eq_next ht
  · exact absurd hbit hne
  · rwa [hnext] at ht
  · omega
  · omega

/-- From the last byte's lowest bit it completes the frame (R99). -/
theorem advanceCursor_complete (hbyte : s.byteIdx = 4) (hbit : s.bitIdx = 0) :
    advanceCursor s = .next { s with byteIdx := 5, bitIdx := 7, decState := .idle, done := true } := by
  simp [advanceCursor, execDecComplete, completeFrame, hbyte, hbit]

/-! ## The cursor's position (R52, R106) -/

/-- Each advance of the cursor moves it by one position. -/
theorem cursorPos_advanceCursor (h : advanceCursor s = .next t) : cursorPos t = cursorPos s + 1 := by
  have hbitLt := s.bitIdx.isLt
  have hpred : s.bitIdx ≠ 0 → (s.bitIdx - 1).toNat + 1 = s.bitIdx.toNat := by bv_omega
  unfold cursorPos
  obtain ⟨hbit, -, rfl⟩ | ⟨hbit, hlt, rfl⟩ | ⟨hbit, h4, rfl⟩ | ⟨hbit, h5, rfl⟩ := advanceCursor_eq_next h
  · have := hpred hbit
    dsimp only
    omega
  · have hnext : (BitVec.ofNat 3 (s.byteIdx.toNat + 1)).toNat = s.byteIdx.toNat + 1 := by
      rw [BitVec.toNat_ofNat]; omega
    simp [hbit, hnext]
    omega
  · simp [hbit, h4]
  · have := hpred hbit
    dsimp only
    rw [h5]
    simp
    omega

theorem cursorPos_execDecAwaitBitFallL0 {ts : Time} (h : execDecAwaitBitFallL0 ts s = .next t) :
    cursorPos t = cursorPos s + 1 := by
  obtain ⟨t0, -, ⟨-, hadv⟩ | ⟨-, -, F, -, hadv⟩⟩ := execDecAwaitBitFallL0_eq_next h
  · exact cursorPos_advanceCursor hadv
  · exact cursorPos_advanceCursor (s := { s with frame := some (frameSetBit F s.byteIdx s.bitIdx) }) hadv

/-- The position after a transition: one further at a falling edge, 0 at the first bit's leading low. -/
theorem cursorPos_transition {ts : Time} {level : Bool} (h : transition ts level s = .next t) :
    cursorPos t =
      if level = false ∧ s.decState = .awaitingBitFalling then cursorPos s + 1
      else if level = false ∧ s.decState = .awaitingBitLow then 0
      else cursorPos s := by
  unfold transition at h
  cases hdec : s.decState <;> cases level <;> simp only [hdec] at h
  case awaitingBitFalling.false => simpa using cursorPos_execDecAwaitBitFallL0 h
  case reserved6.false | reserved6.true | reserved7.false | reserved7.true => cases h
  all_goals cases h; simp [cursorPos]

theorem cursorPos_applyVerdict (v : Verdict) (s : State) : cursorPos (applyVerdict v s) = cursorPos s := by
  cases v <;> rfl

theorem cursorPos_endWakeHold (lerr : Bool) (s : State) : cursorPos (endWakeHold lerr s) = cursorPos s := by
  obtain ⟨-, -, heq⟩ | ⟨-, heq⟩ := endWakeHold_cases lerr s <;> rw [heq] <;> rfl

/-- The settle moves the cursor only by arming, at the end of the start hold (R115). -/
theorem cursorPos_execOrcEval {lerr : Bool} (h : execOrcEval lerr s = .next t)
    (hstart : s.orcPhase = .start → ∃ t0, s.phaseT0 = some t0 ∧ (s.now - t0).toNat < s.cfg.tStartUs) :
    cursorPos t = cursorPos s := by
  obtain ⟨rfl, -⟩ | ⟨_, -, -, -, rfl⟩ | ⟨t1, hphase, ht1, hover, -⟩ | ⟨F, v, -, -, -, -, rfl⟩ | ⟨_, -, -, -, -, rfl⟩ :=
    execOrcEval_eq_next h
  · rfl
  · exact cursorPos_endWakeHold lerr s
  · obtain ⟨t0, ht0, hlt⟩ := hstart hphase
    obtain rfl : t1 = t0 := Option.some.inj (ht1.symm.trans ht0)
    exact absurd hover (Nat.not_le.mpr hlt)
  · exact cursorPos_applyVerdict v (handOff F s)
  · rfl

/-! ## What a transition leaves to the transaction -/

/-- The registers that say how the transaction in flight goes on, and what the last one left. -/
def transactionRegs (s : State) : (OrcPhase × Option Time × Time × Config) × Option Frame × Status :=
  ((s.orcPhase, s.phaseT0, s.now, s.cfg), s.rxFrame, s.lastStatus)

theorem transactionRegs_eq_iff :
    transactionRegs t = transactionRegs s ↔
      (t.orcPhase = s.orcPhase ∧ t.phaseT0 = s.phaseT0 ∧ t.now = s.now ∧ t.cfg = s.cfg) ∧ t.rxFrame = s.rxFrame ∧
        t.lastStatus = s.lastStatus := by
  simp [transactionRegs]

theorem DecoderOnly.transactionRegs_eq (h : DecoderOnly s t) : transactionRegs t = transactionRegs s :=
  (congrArg transactionRegs (show t = _ from h)).trans rfl

end Sys2Proof.Machine

namespace Sys2Proof.Proofs

open Sys2Proof.Machine

/-- Settles O11. -/
theorem decoderAdvanceRows : Obligations.DecoderAdvanceRows := by
  unfold Obligations.DecoderAdvanceRows
  exact fun _ => ⟨rfl, rfl, rfl, fun _ => rfl, rfl⟩

/-- Settles O12. -/
theorem decoderIgnoreRows : Obligations.DecoderIgnoreRows := by
  unfold Obligations.DecoderIgnoreRows
  exact fun _ => ⟨rfl, rfl, rfl, rfl, rfl, fun _ => rfl⟩

/-- Settles O14: the width does not depend on where the pulse starts. -/
theorem thresholdTable : Obligations.ThresholdTable := by
  unfold Obligations.ThresholdTable
  refine fun cfg t0 => ⟨fun ts => longPulse_iff_mod, fun h40 => ?_⟩
  have hzero : longPulse cfg t0 t0 = false := by simp [longPulse]
  exact ⟨hzero, by simp only [longPulse_add, h40]; decide⟩

/-- Settles O15: every register that ARM writes it writes with a constant. -/
theorem armResetsTheDecoder : Obligations.ArmResetsTheDecoder := by
  unfold Obligations.ArmResetsTheDecoder
  intro s
  refine ⟨rfl, fun t ht => ?_⟩
  cases ht
  rfl

/-- Settles O16: the stimulus looks for reserved codes first, `dec_state`'s before the others. -/
theorem reservedDecoderCodeFaults : Obligations.ReservedDecoderCodeFaults := by
  unfold Obligations.ReservedDecoderCodeFaults
  refine ⟨fun _ _ _ => rfl, fun ts level s h => execTrans_of_reserved h ts level, ?_⟩
  intro w ws ts level s hq hw hdec hmark
  have hstep : step s = .fault .reservedDecState := by
    rw [step_of_stimulus hq, hw]
    exact execTrans_of_reserved (s := { s with stimuli := ws }) hdec ts level
  rw [advance_of_fault hstep]
  simp [markFault, dropStimulus, hq, hmark]

/-- Settles O7: on a state without reserved codes a TRANS is its transition on a fresh log and the settle, and the transition
is its key's row. -/
theorem transRunsItsKeysRowThenSettles : Obligations.TransRunsItsKeysRowThenSettles := by
  unfold Obligations.TransRunsItsKeysRowThenSettles
  intro s ts level h
  have hsettled : exec (.trans ts level) s = andThen (transition ts level (freshLog s)) (execOrcEval false) :=
    settled_of_legal h false _
  exact hsettled.trans (congrArg (andThen · (execOrcEval false)) (transition_eq_exec_decodeDec ts level (freshLog s)))

/-- Settles O13: the edge stores its bit at the cursor and advances, in one of the cursor's three ways. -/
theorem fallingEdgeStoresBitAndAdvances : Obligations.FallingEdgeStoresBitAndAdvances := by
  unfold Obligations.FallingEdgeStoresBitAndAdvances
  intro s ts t0 F hts hF hbyte
  have hrow := execDecAwaitBitFallL0_of_held hts hF hbyte ts
  have hlong : longPulse s.cfg ts t0 = decide ((ts - t0).toNat > s.cfg.tBitUs) := rfl
  obtain ⟨t, ht, -⟩ := advanceCursor_completes
    (s := withFrame (some (storedFrame (longPulse s.cfg ts t0) F s.byteIdx s.bitIdx)) s) hbyte
  have hanswer {u : State} (hu : advanceCursor (withFrame _ s) = .next u) : t = u :=
    Host.Outcome.next.inj (ht.symm.trans hu)
  refine ⟨storedFrame (longPulse s.cfg ts t0) F s.byteIdx s.bitIdx, t, hrow.trans ht, fun n _ => ?_,
    fun hbit => ?_, fun hbit hne => ?_, fun hbit heq => ?_⟩
  · rw [storedFrame_getLsbD, hlong]; rfl
  · exact hanswer (advanceCursor_within (s := withFrame _ s) hbyte hbit)
  · have hlt : s.byteIdx.toNat < 4 := by bv_omega
    exact hanswer (advanceCursor_nextByte (s := withFrame _ s) hlt hbit)
  · exact hanswer (advanceCursor_complete (s := withFrame _ s) heq hbit)

/-- Settles O18: the transition moves the cursor as R106 says, and the settle moves it only where it arms. -/
theorem cursorMovesOncePerFallingEdge : Obligations.CursorMovesOncePerFallingEdge := by
  unfold Obligations.CursorMovesOncePerFallingEdge
  intro s t ts level h hstart
  obtain ⟨-, u, hu, hsettle⟩ := settled_eq_next_iff.mp h
  obtain ⟨⟨hphase, ht0, hnow, hcfg⟩, -⟩ := transactionRegs_eq_iff.mp (transition_decoderOnly hu).transactionRegs_eq
  have hsettled : cursorPos t = cursorPos u := cursorPos_execOrcEval hsettle (by rw [hphase, ht0, hnow, hcfg]; exact hstart)
  exact hsettled.trans (cursorPos_transition (s := freshLog s) hu)

end Sys2Proof.Proofs
end

section
/-! The hand-over of a complete frame (40_decoder.md R107, 41_orchestrator.md R117): the one operation that writes `rx_frame`, on
which states a step performs it, and what it leaves. -/

namespace Sys2Proof.Machine

/-- The status that VALIDATE gives a frame: ST_CHECKSUM exactly if the checksum fails (R130). -/
def ValidatorStatus (F : Frame) (st : Status) : Prop :=
  st = .checksum ∧ checksumOk F = false ∨ checksumOk F = true ∧ (st = .plaus ∨ st = .acceptFirst ∨ st = .accept)

/-- The step from `s` to `t` hands the complete frame of `O_WAIT` over and ends the transaction with the Validator's status. -/
structure HandedOver (s t : State) : Prop where
  waiting : s.orcPhase = .wait
  complete : s.done = true
  ended : t.orcPhase = .idle
  decoder_kept : decoderRegs t = decoderRegs s
  frame_held : ∃ F, s.frame = some F ∧ t.rxFrame = some F ∧ ValidatorStatus F t.lastStatus

variable {s t : State}

theorem rxFrame_applyVerdict (v : Verdict) (s : State) : (applyVerdict v s).rxFrame = s.rxFrame := by
  cases v <;> rfl

/-- The status that VALIDATE records for the frame it judged. -/
theorem validatorStatus_of_judge {F : Frame} (hF : s.rxFrame = some F) {v : Verdict} (hv : judge s = .ok v) :
    ValidatorStatus F (applyVerdict v s).lastStatus := by
  obtain ⟨G, hG, hcases⟩ := judge_eq_ok hv
  obtain rfl : F = G := Option.some.inj (hF.symm.trans hG)
  obtain ⟨hsum, rfl⟩ | ⟨hsum, ⟨-, rfl⟩ | rfl⟩ := hcases
  · exact .inl ⟨rfl, hsum⟩
  · exact .inr ⟨hsum, .inl rfl⟩
  · unfold acceptance
    split_ifs
    · exact .inr ⟨hsum, .inr (.inl rfl)⟩
    · exact .inr ⟨hsum, .inr (.inr rfl)⟩

theorem handedOver_of_judge {F : Frame} {v : Verdict} (hphase : s.orcPhase = .wait) (hdone : s.done = true)
    (hF : s.frame = some F) (hv : judge (handOff F s) = .ok v) :
    HandedOver s (endTransaction (verdictOutcome v) (applyVerdict v (handOff F s))) := by
  obtain ⟨hidle, -, -, hregs⟩ := applyVerdict_control v (handOff F s)
  exact ⟨hphase, hdone, hidle, hregs, F, hF, rxFrame_applyVerdict v (handOff F s), validatorStatus_of_judge rfl hv⟩

/-! ## The sub-steps of a stimulus -/

theorem rxFrame_startTransaction (lerr : Bool) (s : State) : (startTransaction lerr s).rxFrame = s.rxFrame := by
  obtain ⟨-, -, heq⟩ | ⟨-, heq⟩ := startTransaction_cases lerr s <;> exact congrArg (·.rxFrame) heq

theorem rxFrame_endWakeHold (lerr : Bool) (s : State) : (endWakeHold lerr s).rxFrame = s.rxFrame := by
  obtain ⟨-, -, heq⟩ | ⟨-, heq⟩ := endWakeHold_cases lerr s <;> exact congrArg (·.rxFrame) heq

theorem rxFrame_endStartHold (lerr : Bool) (s : State) : (endStartHold lerr s).rxFrame = s.rxFrame := by
  obtain ⟨-, -, heq⟩ | ⟨-, heq⟩ := endStartHold_cases lerr s <;> exact congrArg (·.rxFrame) heq

/-- The settle keeps `rx_frame` or hands a complete frame over. -/
theorem execOrcEval_keeps_or_handsOver {lerr : Bool} (h : execOrcEval lerr s = .next t) :
    t.rxFrame = s.rxFrame ∨ HandedOver s t := by
  obtain ⟨rfl, -⟩ | ⟨_, -, -, -, rfl⟩ | ⟨_, -, -, -, rfl⟩ | ⟨F, v, hphase, hdone, hF, hv, rfl⟩ | ⟨_, -, -, -, -, rfl⟩ :=
    execOrcEval_eq_next h
  · exact .inl rfl
  · exact .inl (rxFrame_endWakeHold lerr s)
  · exact .inl (rxFrame_endStartHold lerr s)
  · exact .inr (handedOver_of_judge hphase hdone hF hv)
  · exact .inl rfl

/-- The settle of `O_WAIT` with a complete frame hands it over, before any timeout (R116, R123). -/
theorem execOrcEval_handsOver {lerr : Bool} (h : execOrcEval lerr s = .next t) (hphase : s.orcPhase = .wait)
    (hdone : s.done = true) : HandedOver s t := by
  obtain ⟨-, hquiet⟩ | ⟨_, hwake, -⟩ | ⟨_, hstart, -⟩ | ⟨F, v, -, -, hF, hv, rfl⟩ | ⟨_, -, hdone', -⟩ := execOrcEval_eq_next h
  · simp [hphase, hdone] at hquiet
  · simp [hphase] at hwake
  · simp [hphase] at hstart
  · exact handedOver_of_judge hphase hdone hF hv
  · simp [hdone] at hdone'

/-- `u` has the `rx_frame` of `s`, and is not newly in `O_WAIT`. -/
def NoHandOver (s u : State) : Prop := u.rxFrame = s.rxFrame ∧ (u.orcPhase = .wait → s.orcPhase = .wait)

theorem NoHandOver.of_decoderOnly (h : DecoderOnly s t) : NoHandOver s t := by
  obtain ⟨⟨hphase, -⟩, hrx, -⟩ := transactionRegs_eq_iff.mp h.transactionRegs_eq
  exact ⟨hrx, hphase ▸ id⟩

/-- A transaction's start enters `O_WAKE`, or ends at once in `O_IDLE` (R111, R119). -/
theorem startTransaction_noHandOver (lerr : Bool) (s : State) : NoHandOver s (startTransaction lerr s) := by
  refine ⟨rxFrame_startTransaction lerr s, ?_⟩
  obtain ⟨-, -, heq⟩ | ⟨-, heq⟩ := startTransaction_cases lerr s <;> rw [heq] <;> nofun

theorem tickArm_noHandOver {lerr : Bool} (h : tickArm lerr s = .next t) : NoHandOver s t := by
  obtain ⟨-, -, rfl⟩ | ⟨-, -, rfl⟩ | ⟨-, rfl⟩ := tickArm_eq_next h
  · exact startTransaction_noHandOver lerr { s with schState := .busy }
  · exact ⟨rfl, id⟩
  · exact ⟨rfl, id⟩

/-! ## The stimuli -/

/-- Where a stimulus's own effect hands nothing over, a changed `rx_frame` is the settle's hand-over. -/
theorem settled_handsOver {lerr : Bool} {p : State → Result}
    (hinv : ∀ u v : State, u.Inv → p u = .next v → v.Inv) (hp : ∀ u v : State, p u = .next v → NoHandOver u v)
    (h : s.Inv) (ht : settled lerr p s = .next t) (hne : t.rxFrame ≠ s.rxFrame) :
    ∃ u : State, u.Inv ∧ s.orcPhase = .wait ∧ HandedOver u t := by
  obtain ⟨-, u, hu, hsettle⟩ := settled_eq_next_iff.mp ht
  obtain ⟨hrx, hphase⟩ : NoHandOver s u := hp (freshLog s) u hu
  obtain hkept | hover := execOrcEval_keeps_or_handsOver hsettle
  · exact absurd (hkept.trans hrx) hne
  · exact ⟨u, hinv _ u h.freshLog hu, hphase hover.waiting, hover⟩

theorem exec_handsOver {i : Instr} (hi : settles i = true) (h : s.Inv) (ht : exec i s = .next t)
    (hne : t.rxFrame ≠ s.rxFrame) : ∃ u : State, u.Inv ∧ s.orcPhase = .wait ∧ HandedOver u t := by
  cases i with
  | trans ts level =>
    exact settled_handsOver (fun _ _ hu => transition_keeps_inv hu)
      (fun _ _ hu => .of_decoderOnly (transition_decoderOnly hu)) h ht hne
  | time t' lerr =>
    exact settled_handsOver (p := fun u => .next (setNow t' u)) (fun _ _ hu hv => by cases hv; exact setNow_inv hu t')
      (fun _ _ hv => by cases hv; exact ⟨rfl, id⟩) h ht hne
  | tick lerr =>
    exact settled_handsOver (fun _ _ hu => tickArm_keeps_inv hu) (fun _ _ hu => tickArm_noHandOver hu) h ht hne
  | stop =>
    exact settled_handsOver (p := fun u => .next (requestStop u)) (fun _ _ hu hv => by cases hv; exact requestStop_inv hu)
      (fun _ _ hv => by cases hv; exact ⟨rfl, id⟩) h ht hne
  | _ => cases hi

end Sys2Proof.Machine

namespace Sys2Proof.Proofs

open Sys2Proof.Machine

/-- Settles O34: only the settle's hand-over writes `rx_frame`, and the state it settles is sound, so its complete frame stands
in `Idle` at byte 5. -/
theorem onlyCompleteFramesAreHandedOver : Obligations.OnlyCompleteFramesAreHandedOver := by
  unfold Obligations.OnlyCompleteFramesAreHandedOver
  intro i s t hi h ht hne
  obtain ⟨u, hu, hphase, hover⟩ := exec_handsOver hi h ht hne
  obtain ⟨F, huF, htF, -⟩ := hover.frame_held
  obtain ⟨hidle, hbyte⟩ := hu.r45.done_idle hover.complete
  have hregs := hover.decoder_kept
  simp only [decoderRegs, Prod.mk.injEq] at hregs
  obtain ⟨hdec, hbyteEq, hframe, -, hdone⟩ := hregs
  exact ⟨hphase, hover.ended, hdone.trans hover.complete, hdec.trans hidle, hbyteEq.trans hbyte,
    htF.trans (hframe.trans huF).symm⟩

end Sys2Proof.Proofs
end

section
/-! A frame that SENDFRAME sends is the frame that the decoder reconstructs (40_decoder.md R92 to R99, 30_encoding.md R83): no
settle before the last edge ends a phase, each pulse stores its bit and moves the cursor by one, and the 40th completes the frame
and hands it over where a transaction waits for it (41_orchestrator.md R116, R117). -/

namespace Sys2Proof.Machine

/-! ## The words of SENDFRAME (R83) -/

theorem asmTrans_eq_some {ts level : Nat} {w : StimWord} (h : asmTrans ts level = some w) :
    w = stimWord 1 false (level == 1) (BitVec.ofNat 32 ts) := by
  unfold asmTrans at h
  split_ifs at h
  exact (Option.some.inj h).symm

/-- The width of a bit's high pulse. -/
def pulseWidth (v : Nat) : Nat := if v = 0 then 22 else 70

theorem asmHipulse_eq_some {s w : Nat} {ws : List StimWord} (h : asmHipulse s w = some ws) :
    ws = [stimWord 1 false true (BitVec.ofNat 32 s), stimWord 1 false false (BitVec.ofNat 32 (s + w))] := by
  unfold asmHipulse at h
  split at h
  next a b ha hb =>
    obtain rfl := asmTrans_eq_some ha
    obtain rfl := asmTrans_eq_some hb
    exact (Option.some.inj h).symm
  next => cases h

/-- A bit is its pulse's two edges, 50 microseconds after the edge before them, and then the bits after it. -/
theorem asmBits_cons_eq_some {c v : Nat} {vs : List Nat} {ws : List StimWord} (h : asmBits c (v :: vs) = some ws) :
    v ≤ 1 ∧ ∃ rest, asmBits (c + 50 + pulseWidth v) vs = some rest ∧
      ws = stimWord 1 false true (BitVec.ofNat 32 (c + 50)) ::
        stimWord 1 false false (BitVec.ofNat 32 (c + 50 + pulseWidth v)) :: rest := by
  have hv : v ≤ 1 := by
    by_contra hv
    simp [asmBits, hv] at h
  rw [asmBits, if_pos hv] at h
  split at h
  next pulse rest hpulse hrest =>
    obtain rfl := asmHipulse_eq_some hpulse
    exact ⟨hv, rest, hrest, (Option.some.inj h).symm⟩
  next => cases h

/-- The frame's three edges before the bits, and the bits of its bytes. -/
theorem asmFrame_eq_some {at0 : Nat} {bytes : List Nat} {ws : List StimWord} (h : asmFrame at0 bytes = some ws) :
    ∃ rest, asmBits (at0 + 160) (bytes.flatMap byteBits) = some rest ∧
      ws = stimWord 1 false false (BitVec.ofNat 32 at0) :: stimWord 1 false true (BitVec.ofNat 32 (at0 + 80)) ::
        stimWord 1 false false (BitVec.ofNat 32 (at0 + 160)) :: rest := by
  unfold asmFrame at h
  split_ifs at h
  split at h
  next a b c rest ha hb hc hrest =>
    obtain rfl := asmTrans_eq_some ha
    obtain rfl := asmTrans_eq_some hb
    obtain rfl := asmTrans_eq_some hc
    exact ⟨rest, hrest, (Option.some.inj h).symm⟩
  next => cases h

/-- A threshold between the two widths tells the fixture's pulses apart, wherever they start. -/
theorem longPulse_pulseWidth {cfg : Config} (hlow : 22 ≤ cfg.tBitUs) (hhigh : cfg.tBitUs < 70) {v : Nat} (hv : v ≤ 1)
    (c : Nat) : longPulse cfg (BitVec.ofNat 32 (c + pulseWidth v)) (BitVec.ofNat 32 c) = (v == 1) := by
  rw [BitVec.ofNat_add, longPulse_add]
  obtain rfl | rfl : v = 0 ∨ v = 1 := by omega
  · simp [pulseWidth, hlow]
  · simp [pulseWidth, hhigh]

/-! ## The rows that its edges select (R92, R94 to R96, R98) -/

variable {s₀ s t : State}

theorem transition_response (hdec : s.decState = .awaitingLow) (ts : Time) :
    transition ts false s = .next { s with decState := .awaitingHigh } := transition_of_row hdec ts false

theorem transition_responseHigh (hdec : s.decState = .awaitingHigh) (ts : Time) :
    transition ts true s = .next { s with decState := .awaitingBitLow } := transition_of_row hdec ts true

theorem transition_firstLow (hdec : s.decState = .awaitingBitLow) (ts : Time) :
    transition ts false s = .next { s with byteIdx := 0, bitIdx := 7, frame := some 0, decState := .awaitingBitHigh } :=
  transition_of_row hdec ts false

theorem transition_rise (hdec : s.decState = .awaitingBitHigh) (ts : Time) :
    transition ts true s = .next { s with tsHigh := some ts, decState := .awaitingBitFalling } :=
  transition_of_row hdec ts true

theorem transition_fall (hdec : s.decState = .awaitingBitFalling) (ts : Time) :
    transition ts false s = execDecAwaitBitFallL0 ts s := transition_of_row hdec ts false

/-! ## The bits that a frame holds (R52) -/

/-- The frame's bits are `bits` in the order they are sent, and 0 behind them. -/
def HoldsBits (F : Frame) (bits : List Nat) : Prop := ∀ n < 40, F.getLsbD n = (bits[39 - n]? == some 1)

theorem holdsBits_nil : HoldsBits 0 [] := by
  intro n _
  simp

/-- Storing a bit at the cursor's position appends it. -/
theorem HoldsBits.store {F : Frame} {bits : List Nat} (h : HoldsBits F bits) (hlen : bits.length < 40) {b i : BitVec 3}
    (hcursor : cursorBit b i = 39 - bits.length) (v : Nat) : HoldsBits (storedFrame (v == 1) F b i) (bits ++ [v]) := by
  intro n hn
  rw [storedFrame_getLsbD, h n hn, hcursor, List.getElem?_append]
  by_cases hat : n = 39 - bits.length
  · have hend : 39 - n = bits.length := by omega
    simp [hat.symm, hend]
  · split_ifs with hlt
    · simp [hat]
    · have hbehind : 39 - n - bits.length ≠ 0 := by omega
      simp [hat, hlt, hbehind]

theorem byteBits_getElem? (b : Nat) {i : Nat} (hi : i < 8) : (byteBits b)[7 - i]? = some (b / 2 ^ i % 2) := by
  interval_cases i <;> simp [byteBits]

theorem flatMap_byteBits_getElem? {bytes : List Nat} {k b : Nat} (hk : bytes[k]? = some b) {j : Nat} (hj : j < 8) :
    (bytes.flatMap byteBits)[8 * k + j]? = (byteBits b)[j]? := by
  induction bytes generalizing k with
  | nil => cases hk
  | cons c cs ih =>
    rw [List.flatMap_cons, List.getElem?_append, byteBits_length]
    cases k with
    | zero =>
      obtain rfl : c = b := Option.some.inj hk
      simp [hj]
    | succ k =>
      have hskip : 8 * (k + 1) + j - 8 = 8 * k + j := by omega
      rw [if_neg (by omega), hskip]
      exact ih hk

/-- Byte `k` of a frame that holds the bits of five bytes is the `k`th of them. -/
theorem HoldsBits.frameByte_eq {F : Frame} {bytes : List Nat} (h : HoldsBits F (bytes.flatMap byteBits)) {k b : Nat}
    (hk : k < 5) (hb : bytes[k]? = some b) : frameByte F k = BitVec.ofNat 8 b := by
  apply BitVec.eq_of_getLsbD_eq
  intro i hi
  have hbit : 39 - (32 - 8 * k + i) = 8 * k + (7 - i) := by omega
  have hF := h (32 - 8 * k + i) (by omega)
  rw [hbit, flatMap_byteBits_getElem? hb (by omega), byteBits_getElem? b hi] at hF
  simp only [frameByte, BitVec.getLsbD_extractLsb', hi, decide_true, Bool.true_and, hF, BitVec.getLsbD_ofNat]
  rw [Nat.testBit_eq_decide_div_mod_eq]
  rfl

/-! ## Steps while no phase ends -/

/-- No transaction is in flight, or one waits for its frame with the timeout not over: a settle before the frame is complete
changes nothing. -/
def AwaitsFrame (s : State) : Prop :=
  s.orcPhase = .idle ∨ s.orcPhase = .wait ∧ ∃ t0, s.phaseT0 = some t0 ∧ (s.now - t0).toNat < s.cfg.tTimeoutUs

theorem AwaitsFrame.of_transactionRegs (h : AwaitsFrame s₀) (hregs : transactionRegs s = transactionRegs s₀) :
    AwaitsFrame s := by
  obtain ⟨⟨hphase, ht0, hnow, hcfg⟩, -⟩ := transactionRegs_eq_iff.mp hregs
  unfold AwaitsFrame
  rwa [hphase, ht0, hnow, hcfg]

theorem AwaitsFrame.execOrcEval_eq (h : AwaitsFrame s) (hdone : s.done = false) (lerr : Bool) :
    execOrcEval lerr s = .next s := by
  obtain hphase | ⟨hphase, t0, ht0, hlt⟩ := h
  · exact execOrcEval_of_idle hphase lerr
  · have hover : holdOver s.now t0 s.cfg.tTimeoutUs = false := by
      rw [← Bool.not_eq_true, holdOver_iff]
      exact Nat.not_le.mpr hlt
    simp [execOrcEval, hphase, execOrcWait, hdone, ht0, hover]

/-- `s` is a sound state on the way from `s₀`, with the transaction where it was in `s₀`, the decoder in `d`, and the words `ws`
to come. -/
structure Receives (s₀ s : State) (d : DecState) (ws : List StimWord) : Prop where
  inv : s.Inv
  transaction_kept : transactionRegs s = transactionRegs s₀
  decState_eq : s.decState = d
  stimuli_eq : s.stimuli = ws

/-- The state that a step's stimulus acts on: its word taken, its log fresh (R150). -/
def wordTaken (ws : List StimWord) (s : State) : State := freshLog (withStimuli ws s)

theorem State.Inv.wordTaken (h : s.Inv) (ws : List StimWord) : (wordTaken ws s).Inv := (h.withStimuli ws).freshLog

theorem Receives.decState_wordTaken {d : DecState} {ws : List StimWord} (h : Receives s₀ s d ws) (ws' : List StimWord) :
    (wordTaken ws' s).decState = d := h.decState_eq

/-- A TRANS is its transition and the settle. -/
theorem step_transWord {level : Bool} {ts : Time} {ws : List StimWord} (hinv : s.Inv)
    (hq : s.stimuli = stimWord 1 false level ts :: ws) :
    step s = andThen (transition ts level (wordTaken ws s)) (execOrcEval false) := by
  rw [step_of_stimulus hq, decodeStim_transWord]
  exact settled_of_legal (hinv.withStimuli ws).legal false _

section
variable {d : DecState} {level : Bool} {ts : Time} {ws : List StimWord}
  (h : Receives s₀ s d (stimWord 1 false level ts :: ws))
  (ht : transition ts level (wordTaken ws s) = .next t)
include h ht

/-- A transition keeps the invariant, the transaction and the words behind its own. -/
theorem Receives.transition_receives : Receives s₀ t t.decState ws := by
  have hframe := transition_decoderOnly ht
  obtain ⟨-, -, -, hstimuli⟩ := surroundings_eq_iff.mp hframe.surroundings_eq
  exact ⟨transition_keeps_inv (h.inv.wordTaken ws) ht, hframe.transactionRegs_eq.trans h.transaction_kept, rfl,
    hstimuli⟩

/-- Unless its transition goes to `Idle`, the step is its transition. -/
theorem Receives.step (hawaits : AwaitsFrame s₀) {d' : DecState} (hd : t.decState = d') (hne : d' ≠ .idle) :
    Machine.step s = .next t ∧ Receives s₀ t d' ws := by
  have ht' : Receives s₀ t t.decState ws := h.transition_receives ht
  have hdone : t.done = false := (inv_iff.mp ht'.inv).1.done_eq_false (hd ▸ hne)
  refine ⟨?_, hd ▸ ht'⟩
  rw [step_transWord h.inv h.stimuli_eq, ht]
  exact (hawaits.of_transactionRegs ht'.transaction_kept).execOrcEval_eq hdone false

end

/-! ## The bits -/

/-- With the cursor in the frame the advance moves it by one position, and completes the frame from position 39 alone. -/
theorem advanceCursor_of_cursorPos (hbyte : s.byteIdx.toNat ≤ 4) :
    ∃ t, advanceCursor s = .next t ∧ t.frame = s.frame ∧ cursorPos t = cursorPos s + 1 ∧
      (cursorPos s < 39 → t.decState = .awaitingBitHigh) ∧ (cursorPos s = 39 → t.decState = .idle ∧ t.done = true) := by
  have hbitLt := s.bitIdx.isLt
  obtain ⟨t, ht, hframe⟩ := advanceCursor_completes hbyte
  refine ⟨t, ht, hframe, cursorPos_advanceCursor ht, ?_⟩
  unfold cursorPos
  obtain ⟨hbit, hlt, rfl⟩ | ⟨hbit, hlt, rfl⟩ | ⟨hbit, h4, rfl⟩ | ⟨-, h5, -⟩ := advanceCursor_eq_next ht
  · have hpos : 0 < s.bitIdx.toNat := by bv_omega
    exact ⟨fun _ => rfl, by omega⟩
  · exact ⟨fun _ => rfl, by omega⟩
  · exact ⟨by simp [h4, hbit], fun _ => ⟨rfl, rfl⟩⟩
  · omega

/-- The decoder is in `d` with the cursor behind the bits that it has received and stored. -/
structure Received (s₀ s : State) (d : DecState) (bits : List Nat) (ws : List StimWord) : Prop where
  receives : Receives s₀ s d ws
  position : cursorPos s = bits.length
  frame_holds : ∃ F, s.frame = some F ∧ HoldsBits F bits

/-- What a frame of `bits` leaves when it completes: the frame in the decoder and, where a transaction waited for it, in
`rx_frame`, with that transaction ended. -/
structure Delivered (s₀ t : State) (F : Frame) : Prop where
  frame_eq : t.frame = some F
  decState_eq : t.decState = .idle
  complete : t.done = true
  ended : t.orcPhase = .idle
  of_idle : s₀.orcPhase = .idle → t.rxFrame = s₀.rxFrame ∧ t.lastStatus = s₀.lastStatus
  of_wait : s₀.orcPhase = .wait → t.rxFrame = some F ∧ ValidatorStatus F t.lastStatus

section
variable {bits : List Nat} {v c : Nat} {ws : List StimWord}

/-- The rising edge of a pulse records its time (R96). -/
theorem Received.rise (hawaits : AwaitsFrame s₀) {ts : Time}
    (h : Received s₀ s .awaitingBitHigh bits (stimWord 1 false true ts :: ws)) :
    ∃ u, step s = .next u ∧ u.tsHigh = some ts ∧ Received s₀ u .awaitingBitFalling bits ws := by
  obtain ⟨hrec, hpos, hframe⟩ := h
  obtain ⟨hstep, hfall⟩ := hrec.step (transition_rise (hrec.decState_wordTaken ws) ts) hawaits rfl nofun
  exact ⟨_, hstep, rfl, hfall, hpos, hframe⟩

/-- The transition of its falling edge appends the bit and advances the cursor, and completes the frame with the 40th bit (R98,
R99). -/
theorem Received.fall (hlow : 22 ≤ s₀.cfg.tBitUs) (hhigh : s₀.cfg.tBitUs < 70)
    (h : Received s₀ s .awaitingBitFalling bits (stimWord 1 false false (BitVec.ofNat 32 (c + pulseWidth v)) :: ws))
    (hts : s.tsHigh = some (BitVec.ofNat 32 c)) (hv : v ≤ 1) (hlen : bits.length < 40) :
    ∃ t, transition (BitVec.ofNat 32 (c + pulseWidth v)) false (wordTaken ws s) = .next t ∧
      Received s₀ t t.decState (bits ++ [v]) ws ∧
      (bits.length < 39 → t.decState = .awaitingBitHigh) ∧ (bits.length = 39 → t.decState = .idle ∧ t.done = true) := by
  obtain ⟨hrec, hpos, F, hF, hbits⟩ := h
  obtain ⟨⟨-, -, -, hcfg⟩, -⟩ := transactionRegs_eq_iff.mp hrec.transaction_kept
  have hbyte : s.byteIdx.toNat ≤ 4 := hrec.inv.r45.cursor_legal (.inr hrec.decState_eq)
  have hcursor : cursorBit s.byteIdx s.bitIdx = 39 - bits.length := by
    have hbitLt := s.bitIdx.isLt
    rw [← hpos]
    unfold cursorBit cursorPos
    omega
  have hlong : longPulse (wordTaken ws s).cfg (BitVec.ofNat 32 (c + pulseWidth v)) (BitVec.ofNat 32 c) = (v == 1) :=
    longPulse_pulseWidth (hcfg ▸ hlow) (hcfg ▸ hhigh) hv c
  obtain ⟨t, ht, hframe, hnext, hmore, hlast⟩ := advanceCursor_of_cursorPos
    (s := withFrame (some (storedFrame (v == 1) F s.byteIdx s.bitIdx)) (wordTaken ws s)) hbyte
  have hrow : transition (BitVec.ofNat 32 (c + pulseWidth v)) false (wordTaken ws s) = .next t := by
    rw [transition_fall (hrec.decState_wordTaken ws),
      execDecAwaitBitFallL0_of_held (s := wordTaken ws s) hts hF hbyte, hlong]
    exact ht
  have hposNext : cursorPos t = (bits ++ [v]).length := by
    rw [List.length_append, List.length_singleton, ← hpos]
    exact hnext
  exact ⟨t, hrow, ⟨hrec.transition_receives hrow, hposNext, _, hframe, hbits.store hlen hcursor v⟩, hpos ▸ hmore,
    hpos ▸ hlast⟩

/-- The settle behind the 40th bit: nothing in `O_IDLE`, the hand-over in `O_WAIT` (R114, R116). -/
theorem Received.settle_complete (hawaits : AwaitsFrame s₀) (h : Received s₀ s .idle bits ws) (hdone : s.done = true) :
    ∃ t F, execOrcEval false s = .next t ∧ HoldsBits F bits ∧ Delivered s₀ t F := by
  obtain ⟨hrec, -, F, hF, hbits⟩ := h
  obtain ⟨⟨hphase, -⟩, hrx, hstatus⟩ := transactionRegs_eq_iff.mp hrec.transaction_kept
  obtain hidle | ⟨hwait, -⟩ := hawaits
  · have hsettle : execOrcEval false s = .next s := execOrcEval_of_idle (hphase.trans hidle) false
    exact ⟨s, F, hsettle, hbits, hF, hrec.decState_eq, hdone, hphase.trans hidle, fun _ => ⟨hrx, hstatus⟩,
      fun hwait => by simp [hidle] at hwait⟩
  · obtain ⟨t, ht⟩ := execOrcEval_completes false hrec.inv.settleReadsHeld
    obtain ⟨-, -, hended, hregs, G, hG, htrx, htstatus⟩ := execOrcEval_handsOver ht (hphase.trans hwait) hdone
    obtain rfl : F = G := Option.some.inj (hF.symm.trans hG)
    simp only [decoderRegs, Prod.mk.injEq] at hregs
    obtain ⟨hdec, -, hframe, -, htdone⟩ := hregs
    exact ⟨t, F, ht, hbits, hframe.trans hF, hdec.trans hrec.decState_eq, htdone.trans hdone, hended,
      fun hidle => by simp [hwait] at hidle, fun _ => ⟨htrx, htstatus⟩⟩

end

/-! ## The run -/

theorem run_succ_of_step (h : step s = .next t) (n : Nat) : core.run (n + 1) s = core.run n t := by
  have hcore : core.step s = .next t := h
  simp only [Host.Core.run, hcore]

/-- Two steps for each bit, by induction on the bits to come; the last edge completes the frame. -/
theorem Received.run (hawaits : AwaitsFrame s₀) (hlow : 22 ≤ s₀.cfg.tBitUs) (hhigh : s₀.cfg.tBitUs < 70) {vs : List Nat}
    {bits : List Nat} {c : Nat} {ws : List StimWord} (h : Received s₀ s .awaitingBitHigh bits ws)
    (hws : asmBits c vs = some ws) (hne : vs ≠ []) (hlen : bits.length + vs.length = 40) :
    ∃ t F, core.run (2 * vs.length) s = .next t ∧ HoldsBits F (bits ++ vs) ∧ Delivered s₀ t F := by
  induction vs generalizing s bits c ws with
  | nil => exact absurd rfl hne
  | cons v vs ih =>
    rw [List.length_cons] at hlen
    obtain ⟨hv, rest, hrest, rfl⟩ := asmBits_cons_eq_some hws
    obtain ⟨u, hrise, hts, hu⟩ := h.rise hawaits
    obtain ⟨w, hfall, hw, hmore, hlast⟩ := hu.fall hlow hhigh hts hv (by omega)
    have hrun (n : Nat) : core.run (n + 2) s = core.run (n + 1) u := run_succ_of_step hrise (n + 1)
    cases vs with
    | nil =>
      obtain ⟨hidle, hdone⟩ := hlast (by simpa using hlen)
      obtain ⟨t, F, hsettle, hbits, hdel⟩ := (hidle ▸ hw).settle_complete hawaits hdone
      have hstep : step u = .next t := by
        rw [step_transWord hu.receives.inv hu.receives.stimuli_eq, hfall]
        exact hsettle
      exact ⟨t, F, (hrun 0).trans (run_succ_of_step hstep 0), hbits, hdel⟩
    | cons v' vs' =>
      have hwDec := hmore (by rw [List.length_cons] at hlen; omega)
      obtain ⟨hstep, hw'⟩ := hu.receives.step hfall hawaits hwDec nofun
      obtain ⟨t, F, ht, hbits, hdel⟩ := ih ⟨hw', hw.position, hw.frame_holds⟩ hrest nofun
        (by rw [List.length_append, List.length_singleton]; omega)
      refine ⟨t, F, ?_, by simpa using hbits, hdel⟩
      exact (hrun _).trans ((run_succ_of_step hstep _).trans ht)

/-- The response and the first bit's leading low bring an armed decoder to the first bit, with the frame cleared (R92, R94,
R95). -/
theorem Receives.run_preamble (hawaits : AwaitsFrame s₀) {ts₁ ts₂ ts₃ : Time} {ws : List StimWord}
    (h : Receives s₀ s .awaitingLow
      (stimWord 1 false false ts₁ :: stimWord 1 false true ts₂ :: stimWord 1 false false ts₃ :: ws)) :
    ∃ u, Received s₀ u .awaitingBitHigh [] ws ∧ ∀ n, core.run (n + 3) s = core.run n u := by
  obtain ⟨hstep₁, h₁⟩ := h.step (transition_response (h.decState_wordTaken _) ts₁) hawaits rfl nofun
  obtain ⟨hstep₂, h₂⟩ := h₁.step (transition_responseHigh (h₁.decState_wordTaken _) ts₂) hawaits rfl nofun
  obtain ⟨hstep₃, h₃⟩ := h₂.step (transition_firstLow (h₂.decState_wordTaken _) ts₃) hawaits rfl nofun
  refine ⟨_, ⟨h₃, rfl, 0, rfl, holdsBits_nil⟩, fun n => ?_⟩
  calc core.run (n + 3) s = core.run (n + 2) _ := run_succ_of_step hstep₁ (n + 2)
    _ = core.run (n + 1) _ := run_succ_of_step hstep₂ (n + 1)
    _ = core.run n _ := run_succ_of_step hstep₃ n

end Sys2Proof.Machine

namespace Sys2Proof.Proofs

open Sys2Proof.Machine

/-- Settles O21: the three edges before the bits, then by induction two steps for each of the forty bits. -/
theorem sentFrameIsReconstructed : Obligations.SentFrameIsReconstructed := by
  unfold Obligations.SentFrameIsReconstructed
  intro s at0 b0 b1 b2 b3 b4 ws _ _ _ _ _ hws h hdec hawaits hlow hhigh hq
  obtain ⟨rest, hrest, rfl⟩ := asmFrame_eq_some hws
  have harmed : Receives s s .awaitingLow _ := ⟨h, rfl, hdec, hq⟩
  obtain ⟨u, hu, hpreamble⟩ := harmed.run_preamble hawaits
  obtain ⟨t, F, hrun, hbits, hdel⟩ := hu.run hawaits hlow hhigh hrest nofun (by rw [length_flatMap_byteBits]; rfl)
  have hbyte {k b : Nat} (hk : k < 5) (hb : [b0, b1, b2, b3, b4][k]? = some b) : frameByte F k = BitVec.ofNat 8 b :=
    hbits.frameByte_eq hk hb
  exact ⟨t, F, (hpreamble 80).trans hrun, hdel.frame_eq, hdel.decState_eq, hdel.complete, hbyte (by decide) rfl,
    hbyte (by decide) rfl, hbyte (by decide) rfl, hbyte (by decide) rfl, hbyte (by decide) rfl, hdel.ended, hdel.of_idle,
    hdel.of_wait⟩

end Sys2Proof.Proofs
end

section
/-! The Orchestrator's line operations, its phases and the ends of a transaction (41_orchestrator.md R111 to R120), each as a
result on a fresh log. -/

namespace Sys2Proof.Machine

variable {s : State} {t0 : Time}

/-! ## The arm of a phase (R77, R112) -/

theorem execOrcEval_of_phase {p : OrcPhase} (hphase : s.orcPhase = p) (lerr : Bool) :
    execOrcEval lerr s = exec (decodeOrc p.code lerr) s := by
  unfold execOrcEval
  rw [hphase]
  cases p <;> rfl

/-! ## Line operations (R120) -/

/-- On a fresh log an operation without a drawn error succeeds, and the rule goes on. -/
theorem emitOrFail_fresh_ok (hlog : s.log = []) (op : LineOp) (k : State → State) :
    emitOrFail op false s k = k { s with log := [(op, .ok)] } := by
  rw [emitOrFail_ok (.inl rfl)]
  simp [emitLineOp, hlog]

/-- With one it fails, and R119 runs. -/
theorem emitOrFail_fresh_err (hlog : s.log = []) (op : LineOp) (k : State → State) :
    emitOrFail op true s k = lineError { s with log := [(op, .err)] } := by
  rw [emitOrFail_err hlog]
  simp [emitLineOp, lineResult, hlog]

theorem startTransaction_ok (hlog : s.log = []) :
    startTransaction false s =
      { s with attempts := satInc s.attempts, log := [(.driveHigh, .ok)], lineMode := .high, orcPhase := .wake,
               phaseT0 := some s.now } :=
  emitOrFail_fresh_ok (s := { s with attempts := satInc s.attempts }) hlog .driveHigh _

theorem startTransaction_err (hlog : s.log = []) :
    startTransaction true s = lineError { s with attempts := satInc s.attempts, log := [(.driveHigh, .err)] } :=
  emitOrFail_fresh_err (s := { s with attempts := satInc s.attempts }) hlog .driveHigh _

theorem endWakeHold_ok (hlog : s.log = []) :
    endWakeHold false s =
      { s with log := [(.driveLow, .ok)], lineMode := .low, orcPhase := .start, phaseT0 := some s.now } :=
  emitOrFail_fresh_ok hlog .driveLow _

theorem endWakeHold_err (hlog : s.log = []) : endWakeHold true s = lineError { s with log := [(.driveLow, .err)] } :=
  emitOrFail_fresh_err hlog .driveLow _

/-- Release, read mode and ARM in one operation (R115). -/
theorem endStartHold_ok (hlog : s.log = []) :
    endStartHold false s =
      { armDecoder s with log := [(.driveHigh, .ok), (.readMode, .ok)], lineMode := .read, orcPhase := .wait,
                          phaseT0 := some s.now } :=
  emitOrFail_fresh_ok hlog .driveHigh _

theorem endStartHold_err (hlog : s.log = []) : endStartHold true s = lineError { s with log := [(.driveHigh, .err)] } :=
  emitOrFail_fresh_err hlog .driveHigh _

/-! ## The timed phases, before and from their bound on (R113, R115, R116) -/

theorem holdOver_of_le {now : Time} {bound : Nat} (h : bound ≤ (now - t0).toNat) : holdOver now t0 bound = true :=
  holdOver_iff.mpr h

theorem holdOver_of_lt {now : Time} {bound : Nat} (h : (now - t0).toNat < bound) : holdOver now t0 bound = false := by
  rw [← Bool.not_eq_true, holdOver_iff]
  exact Nat.not_le.mpr h

section
variable (ht0 : s.phaseT0 = some t0)
include ht0

theorem execOrcWake_of_lt (h : (s.now - t0).toNat < s.cfg.tWakeUs) (lerr : Bool) : execOrcWake lerr s = .next s := by
  simp [execOrcWake, ht0, holdOver_of_lt h]

theorem execOrcWake_of_le (h : s.cfg.tWakeUs ≤ (s.now - t0).toNat) (lerr : Bool) :
    execOrcWake lerr s = .next (endWakeHold lerr s) := by
  simp [execOrcWake, ht0, holdOver_of_le h]

theorem execOrcStart_of_lt (h : (s.now - t0).toNat < s.cfg.tStartUs) (lerr : Bool) : execOrcStart lerr s = .next s := by
  simp [execOrcStart, ht0, holdOver_of_lt h]

theorem execOrcStart_of_le (h : s.cfg.tStartUs ≤ (s.now - t0).toNat) (lerr : Bool) :
    execOrcStart lerr s = .next (endStartHold lerr s) := by
  simp [execOrcStart, ht0, holdOver_of_le h]

theorem execOrcWait_of_lt (hdone : s.done = false) (h : (s.now - t0).toNat < s.cfg.tTimeoutUs) :
    execOrcWait s = .next s := by
  simp [execOrcWait, hdone, ht0, holdOver_of_lt h]

theorem execOrcWait_of_le (hdone : s.done = false) (h : s.cfg.tTimeoutUs ≤ (s.now - t0).toNat) :
    execOrcWait s = .next (timeoutError s) := by
  simp [execOrcWait, hdone, ht0, holdOver_of_le h, execTxnTimeout]

end

/-- Completion is tested before the timeout (R123). -/
theorem execOrcWait_of_done (hdone : s.done = true) : execOrcWait s = execTxnComplete s := if_pos hdone

/-! ## The ends of a transaction (R117 to R119) -/

theorem timeoutError_eq (s : State) :
    timeoutError s =
      { s with lastStatus := .timeout, orcPhase := .idle, remaining := delay s.cfg .timeoutError,
               schState := if s.stopReq = true then .stopped else .run } := rfl

theorem lineError_eq (s : State) :
    lineError s =
      { s with log := s.log ++ [(.readMode, .ok)], lineMode := .read, lastStatus := .line, orcPhase := .idle,
               remaining := delay s.cfg .lineError, schState := if s.stopReq = true then .stopped else .run } := by
  simp only [lineError, raiseError, emitLineOp, endTransaction, lineResult_release]

/-- The status that names an outcome of the Validator (R71, R130). -/
def StatusNames (o : TxnOutcome) (st : Status) : Prop :=
  o = .checksumError ∧ st = .checksum ∨ o = .plausibilityError ∧ st = .plaus ∨
    o = .acceptedFirst ∧ st = .acceptFirst ∨ o = .accepted ∧ st = .accept

/-- VALIDATE records the status of the outcome that it hands to TXN_END. -/
theorem applyVerdict_statusNames (v : Verdict) (s : State) :
    StatusNames (verdictOutcome v) (applyVerdict v s).lastStatus := by
  cases v with
  | checksumError => exact .inl ⟨rfl, rfl⟩
  | plausibilityError => exact .inr (.inl ⟨rfl, rfl⟩)
  | acceptedFirst => exact .inr (.inr (.inl ⟨rfl, rfl⟩))
  | accepted => exact .inr (.inr (.inr ⟨rfl, rfl⟩))

theorem execValidate_of_judge {v : Verdict} (hv : judge s = .ok v) : execValidate s = .next (applyVerdict v s) := by
  simp [execValidate, hv]

theorem execTxnComplete_of_judge {F : Frame} {v : Verdict} (hF : s.frame = some F) (hv : judge (handOff F s) = .ok v) :
    execTxnComplete s = .next (endTransaction (verdictOutcome v) (applyVerdict v (handOff F s))) := by
  simp [execTxnComplete, concludeFrame, hF, hv]

end Sys2Proof.Machine

namespace Sys2Proof.Proofs

open Sys2Proof.Machine

/-- Settles O9: one arm for each phase. -/
theorem orcEvalRunsItsPhasesArm : Obligations.OrcEvalRunsItsPhasesArm := by
  unfold Obligations.OrcEvalRunsItsPhasesArm
  exact fun _ lerr => execOrcEval_of_phase rfl lerr

/-- Settles O22. -/
theorem lineOpLogsItsResult : Obligations.LineOpLogsItsResult := by
  unfold Obligations.LineOpLogsItsResult
  exact fun s _ lerr release => ⟨lineResult s.log lerr release, rfl, lineResult_err_iff⟩

/-- Settles O23: on a fresh log the operation fails exactly with the draw. -/
theorem txnStartResult : Obligations.TxnStartResult := by
  unfold Obligations.TxnStartResult
  intro s hlog
  exact ⟨congrArg Host.Outcome.next (startTransaction_ok hlog), _,
    congrArg Host.Outcome.next (startTransaction_err hlog), rfl⟩

/-- Settles O24: the hold's bound decides, and then the operation's draw. -/
theorem wakePhaseResult : Obligations.WakePhaseResult := by
  unfold Obligations.WakePhaseResult
  intro s t0 ht0 hlog
  refine ⟨execOrcWake_of_lt ht0, fun hover => ?_⟩
  have hend (lerr : Bool) : exec (.orcWake lerr) s = .next (endWakeHold lerr s) := execOrcWake_of_le ht0 hover lerr
  exact ⟨(hend false).trans (congrArg Host.Outcome.next (endWakeHold_ok hlog)), _,
    (hend true).trans (congrArg Host.Outcome.next (endWakeHold_err hlog)), rfl⟩

/-- Settles O25: the hold's bound decides, and then the first operation's draw; the second operation is not the step's
first. -/
theorem startPhaseResult : Obligations.StartPhaseResult := by
  unfold Obligations.StartPhaseResult
  intro s t0 ht0 hlog
  refine ⟨execOrcStart_of_lt ht0, fun hover => ?_⟩
  have hend (lerr : Bool) : exec (.orcStart lerr) s = .next (endStartHold lerr s) := execOrcStart_of_le ht0 hover lerr
  exact ⟨(hend false).trans (congrArg Host.Outcome.next (endStartHold_ok hlog)), _,
    (hend true).trans (congrArg Host.Outcome.next (endStartHold_err hlog)), rfl⟩

/-- Settles O26: `done` decides first, and then the timeout's bound. -/
theorem idleAndWaitPhaseResult : Obligations.IdleAndWaitPhaseResult := by
  unfold Obligations.IdleAndWaitPhaseResult
  intro s
  refine ⟨rfl, fun hdone hframe hprev => ?_, fun t0 hdone ht0 => ⟨fun hover => ?_, execOrcWait_of_lt ht0 hdone⟩⟩
  · obtain ⟨t, ht⟩ := execTxnComplete_completes hframe hprev
    exact ⟨t, (execOrcWait_of_done hdone).trans ht, ht⟩
  · exact ⟨timeoutError s, execOrcWait_of_le ht0 hdone hover, rfl⟩

/-- Settles O27. -/
theorem timeoutAndLineErrorResult : Obligations.TimeoutAndLineErrorResult := by
  unfold Obligations.TimeoutAndLineErrorResult
  exact fun s => ⟨congrArg Host.Outcome.next (timeoutError_eq s), congrArg Host.Outcome.next (lineError_eq s)⟩

/-- Settles O28: the hand-off's state has every value that VALIDATE reads, and TXN_END ends with the outcome of its verdict. -/
theorem completeHandsFrameToValidator : Obligations.CompleteHandsFrameToValidator := by
  unfold Obligations.CompleteHandsFrameToValidator
  intro s F hF hprev
  obtain ⟨v, hv⟩ := judge_complete (s := handOff F s) rfl hprev
  obtain ⟨hidle, hline, -, hregs⟩ := applyVerdict_control v (handOff F s)
  simp only [decoderRegs, Prod.mk.injEq] at hregs
  obtain ⟨-, -, hframe, -, hdone⟩ := hregs
  exact ⟨applyVerdict v (handOff F s), _, verdictOutcome v, execValidate_of_judge hv, rfl, execTxnComplete_of_judge hF hv,
    hframe.trans hF, rxFrame_applyVerdict v (handOff F s), hidle, hline, hdone, applyVerdict_statusNames v (handOff F s)⟩

end Sys2Proof.Proofs
end

section
/-! How one step moves the transaction in flight (41_orchestrator.md R110, R112, R121, R122): a stimulus starts a transaction,
and the settle then finds its wake hold just begun, or it leaves the transaction to the settle, which moves it at most one
phase. -/

namespace Sys2Proof.Machine

variable {s t u : State}

/-! ## TIME (R157) -/

/-- A TIME writes `now` on a fresh log and settles. -/
theorem execTime_of_legal (h : s.Legal) (t' : Time) (lerr : Bool) :
    exec (.time t' lerr) s = execOrcEval lerr (setNow t' (freshLog s)) :=
  settled_of_legal h lerr fun v => .next (setNow t' v)

/-! ## The settle -/

/-- The settle writes neither `now` nor `attempts`. -/
theorem execOrcEval_keeps_now_attempts {lerr : Bool} (h : execOrcEval lerr s = .next t) :
    t.now = s.now ∧ t.attempts = s.attempts := by
  obtain ⟨rfl, -⟩ | ⟨_, -, -, -, rfl⟩ | ⟨_, -, -, -, rfl⟩ | ⟨F, v, -, -, -, -, rfl⟩ | ⟨_, -, -, -, -, rfl⟩ :=
    execOrcEval_eq_next h
  · exact ⟨rfl, rfl⟩
  · obtain ⟨-, -, heq⟩ | ⟨-, heq⟩ := endWakeHold_cases lerr s <;> rw [heq] <;> exact ⟨rfl, rfl⟩
  · obtain ⟨-, -, heq⟩ | ⟨-, heq⟩ := endStartHold_cases lerr s <;> rw [heq] <;> exact ⟨rfl, rfl⟩
  · cases v <;> exact ⟨rfl, rfl⟩
  · exact ⟨rfl, rfl⟩

theorem endWakeHold_orcPhase (lerr : Bool) (s : State) :
    (endWakeHold lerr s).orcPhase = .idle ∨ (endWakeHold lerr s).orcPhase = .start := by
  obtain ⟨-, -, heq⟩ | ⟨-, heq⟩ := endWakeHold_cases lerr s <;> rw [heq]
  · exact .inl rfl
  · exact .inr rfl

theorem endStartHold_orcPhase (lerr : Bool) (s : State) :
    (endStartHold lerr s).orcPhase = .idle ∨ (endStartHold lerr s).orcPhase = .wait := by
  obtain ⟨-, -, heq⟩ | ⟨-, heq⟩ := endStartHold_cases lerr s <;> rw [heq]
  · exact .inl rfl
  · exact .inr rfl

/-- A phase that the settle changes is left for `O_IDLE`, or for the next one with its hold over (R113, R115). -/
theorem execOrcEval_moves {lerr : Bool} (h : execOrcEval lerr s = .next t) (hne : t.orcPhase ≠ s.orcPhase) :
    (∃ t0, s.orcPhase = .wake ∧ s.phaseT0 = some t0 ∧ s.cfg.tWakeUs ≤ (s.now - t0).toNat ∧
      (t.orcPhase = .idle ∨ t.orcPhase = .start)) ∨
    (∃ t0, s.orcPhase = .start ∧ s.phaseT0 = some t0 ∧ s.cfg.tStartUs ≤ (s.now - t0).toNat ∧
      (t.orcPhase = .idle ∨ t.orcPhase = .wait)) ∨
    (s.orcPhase = .wait ∧ t.orcPhase = .idle) := by
  obtain ⟨rfl, -⟩ | ⟨t0, hphase, ht0, hover, rfl⟩ | ⟨t0, hphase, ht0, hover, rfl⟩ | ⟨F, v, hphase, -, -, -, rfl⟩ |
    ⟨_, hphase, -, -, -, rfl⟩ := execOrcEval_eq_next h
  · exact absurd rfl hne
  · exact .inl ⟨t0, hphase, ht0, hover, endWakeHold_orcPhase lerr s⟩
  · exact .inr (.inl ⟨t0, hphase, ht0, hover, endStartHold_orcPhase lerr s⟩)
  · obtain ⟨hidle, -⟩ := applyVerdict_control v (handOff F s)
    exact .inr (.inr ⟨hphase, hidle⟩)
  · exact .inr (.inr ⟨hphase, rfl⟩)

/-! ## The stimuli -/

/-- A transaction's start ends in `O_IDLE` with a line error, or enters `O_WAKE` now (R111). -/
theorem startTransaction_orcPhase (lerr : Bool) (s : State) :
    (startTransaction lerr s).orcPhase = .idle ∨
      (startTransaction lerr s).orcPhase = .wake ∧
        (startTransaction lerr s).phaseT0 = some (startTransaction lerr s).now := by
  obtain ⟨-, -, heq⟩ | ⟨-, heq⟩ := startTransaction_cases lerr s <;> rw [heq]
  · exact .inl rfl
  · exact .inr ⟨rfl, rfl⟩

theorem startTransaction_attempts (lerr : Bool) (s : State) :
    (startTransaction lerr s).attempts = satInc s.attempts := by
  obtain ⟨-, -, heq⟩ | ⟨-, heq⟩ := startTransaction_cases lerr s <;> exact congrArg (·.attempts) heq

/-- The settle behind a transaction's start changes nothing: `O_WAKE` has just been entered, and its hold is longer than 0 (R112,
R193). -/
theorem execOrcEval_startTransaction (lerr lerr' : Bool) (s : State) :
    execOrcEval lerr (startTransaction lerr' s) = .next (startTransaction lerr' s) := by
  obtain hphase | ⟨hphase, ht0⟩ := startTransaction_orcPhase lerr' s
  · exact execOrcEval_of_idle hphase lerr
  · have hwake : 0 < (startTransaction lerr' s).cfg.tWakeUs := by
      have := (startTransaction lerr' s).cfg.wake_ge
      omega
    have hzero : ((startTransaction lerr' s).now - (startTransaction lerr' s).now).toNat = 0 := elapsed_self _
    exact (execOrcEval_of_phase hphase lerr).trans (execOrcWake_of_lt ht0 (hzero ▸ hwake) lerr)

/-- The registers of a transaction in flight that a stimulus's own effect leaves to the settle. -/
def flightRegs (s : State) : OrcPhase × Option Time × Config × Count := (s.orcPhase, s.phaseT0, s.cfg, s.attempts)

theorem flightRegs_eq_iff :
    flightRegs t = flightRegs s ↔
      t.orcPhase = s.orcPhase ∧ t.phaseT0 = s.phaseT0 ∧ t.cfg = s.cfg ∧ t.attempts = s.attempts := by
  simp [flightRegs]

theorem DecoderOnly.flightRegs_eq (h : DecoderOnly s t) : flightRegs t = flightRegs s :=
  (congrArg flightRegs (show t = _ from h)).trans rfl

/-- R153's condition: the stimulus is a TICK in `S_RUN` with no delay left. -/
def StartsTransaction (i : Instr) (s : State) : Prop :=
  (∃ lerr, i = .tick lerr) ∧ s.schState = .run ∧ s.remaining = 0

/-- The state from which a TICK starts a transaction: the log is fresh and the scheduler busy (R150, R153). -/
def madeBusy (s : State) : State := { freshLog s with schState := .busy }

/-- What a step does with a transaction: it starts one and does no more, or its settle works on the one that it found. -/
def StartsOrSettles (i : Instr) (s t : State) : Prop :=
  (StartsTransaction i s ∧ ∃ lerr, t = startTransaction lerr (madeBusy s)) ∨
  (¬ StartsTransaction i s ∧ ∃ lerr u, flightRegs u = flightRegs s ∧ execOrcEval lerr u = .next t)

theorem settled_settles {i : Instr} {lerr : Bool} {p : State → Result} (hi : ¬ StartsTransaction i s)
    (hp : ∀ u v : State, p u = .next v → flightRegs v = flightRegs u) (ht : settled lerr p s = .next t) :
    StartsOrSettles i s t := by
  obtain ⟨-, u, hu, hsettle⟩ := settled_eq_next_iff.mp ht
  exact .inr ⟨hi, lerr, u, hp (freshLog s) u hu, hsettle⟩

theorem execTick_startsOrSettles {lerr : Bool} (ht : exec (.tick lerr) s = .next t) :
    StartsOrSettles (.tick lerr) s t := by
  obtain ⟨-, u, hu, hsettle⟩ := settled_eq_next_iff.mp ht
  obtain ⟨hrun, hrem, rfl⟩ | ⟨-, hrem, rfl⟩ | ⟨hsch, rfl⟩ := tickArm_eq_next hu
  · rw [execOrcEval_startTransaction] at hsettle
    cases hsettle
    exact .inl ⟨⟨⟨lerr, rfl⟩, hrun, hrem⟩, lerr, rfl⟩
  · exact .inr ⟨fun ⟨_, _, hzero⟩ => hrem hzero, lerr, { freshLog s with remaining := s.remaining - 1 }, rfl, hsettle⟩
  · exact .inr ⟨fun ⟨_, hrun, _⟩ => by simp [hrun] at hsch, lerr, freshLog s, rfl, hsettle⟩

theorem exec_startsOrSettles {i : Instr} (hi : settles i = true) (ht : exec i s = .next t) : StartsOrSettles i s t := by
  cases i with
  | trans ts level =>
    exact settled_settles (fun ⟨⟨_, h⟩, _⟩ => nomatch h) (fun _ _ hu => (transition_decoderOnly hu).flightRegs_eq) ht
  | time t' lerr =>
    exact settled_settles (p := fun u => .next (setNow t' u)) (fun ⟨⟨_, h⟩, _⟩ => nomatch h)
      (fun _ _ hu => by cases hu; rfl) ht
  | tick lerr => exact execTick_startsOrSettles ht
  | stop =>
    exact settled_settles (p := fun u => .next (requestStop u)) (fun ⟨⟨_, h⟩, _⟩ => nomatch h)
      (fun _ _ hu => by cases hu; rfl) ht
  | _ => cases hi

theorem StartsOrSettles.attempts_eq_of_starts {i : Instr} (h : StartsOrSettles i s t) (hi : StartsTransaction i s) :
    t.attempts = satInc s.attempts := by
  obtain ⟨-, lerr, rfl⟩ | ⟨hnot, -⟩ := h
  · exact startTransaction_attempts lerr (madeBusy s)
  · exact absurd hi hnot

theorem StartsOrSettles.attempts_eq_of_not_starts {i : Instr} (h : StartsOrSettles i s t) (hi : ¬ StartsTransaction i s) :
    t.attempts = s.attempts := by
  obtain ⟨hstart, -⟩ | ⟨-, lerr, u, hregs, hsettle⟩ := h
  · exact absurd hstart hi
  · obtain ⟨-, -, -, hattempts⟩ := flightRegs_eq_iff.mp hregs
    exact (execOrcEval_keeps_now_attempts hsettle).2.trans hattempts

/-- On a sound state a changed phase is `O_IDLE`, or the one after the phase that the step found (R112). -/
theorem StartsOrSettles.phase_moves {i : Instr} (h : StartsOrSettles i s t) (hinv : s.Inv)
    (hne : t.orcPhase ≠ s.orcPhase) :
    t.orcPhase = .idle ∨ (s.orcPhase = .idle ∧ t.orcPhase = .wake ∧ ∃ lerr, i = .tick lerr) ∨
      (s.orcPhase = .wake ∧ t.orcPhase = .start) ∨ (s.orcPhase = .start ∧ t.orcPhase = .wait) := by
  obtain ⟨⟨htick, hrun, -⟩, lerr, rfl⟩ | ⟨-, lerr, u, hregs, hsettle⟩ := h
  · have hidle : s.orcPhase = .idle := by
      by_contra hflight
      have hbusy := hinv.r45.busy_iff.mp hflight
      simp [hrun] at hbusy
    obtain hphase | ⟨hphase, -⟩ := startTransaction_orcPhase lerr (madeBusy s)
    · exact .inl hphase
    · exact .inr (.inl ⟨hidle, hphase, htick⟩)
  · obtain ⟨hphase, -⟩ := flightRegs_eq_iff.mp hregs
    rw [← hphase] at hne ⊢
    obtain ⟨_, hwake, -, -, hidle | hstart⟩ | ⟨_, hstart, -, -, hidle | hwait⟩ | ⟨-, hidle⟩ := execOrcEval_moves hsettle hne
    · exact .inl hidle
    · exact .inr (.inr (.inl ⟨hwake, hstart⟩))
    · exact .inl hidle
    · exact .inr (.inr (.inr ⟨hstart, hwait⟩))
    · exact .inl hidle

/-- The bound of the hold of a phase, where it has one (R113, R115). -/
def holdBound (cfg : Config) : OrcPhase → Nat
  | .wake => cfg.tWakeUs
  | .start => cfg.tStartUs
  | .idle | .wait => 0

/-- A phase that a step leaves without a transaction's start has lasted for its hold (R122). -/
theorem StartsOrSettles.holdBound_le {i : Instr} {t0 : Time} (h : StartsOrSettles i s t) (hi : ¬ StartsTransaction i s)
    (ht0 : s.phaseT0 = some t0) (hne : t.orcPhase ≠ s.orcPhase) :
    holdBound s.cfg s.orcPhase ≤ (t.now - t0).toNat := by
  obtain ⟨hstart, -⟩ | ⟨-, lerr, u, hregs, hsettle⟩ := h
  · exact absurd hstart hi
  obtain ⟨hphase, huT0, hcfg, -⟩ := flightRegs_eq_iff.mp hregs
  obtain ⟨hnow, -⟩ := execOrcEval_keeps_now_attempts hsettle
  rw [← hcfg, ← hphase, hnow]
  rw [← hphase] at hne
  rw [← huT0] at ht0
  obtain ⟨t1, hwake, ht1, hover, -⟩ | ⟨t1, hstart, ht1, hover, -⟩ | ⟨hwait, -⟩ := execOrcEval_moves hsettle hne
  · obtain rfl : t1 = t0 := Option.some.inj (ht1.symm.trans ht0)
    rwa [hwake]
  · obtain rfl : t1 = t0 := Option.some.inj (ht1.symm.trans ht0)
    rwa [hstart]
  · rw [hwait]
    exact Nat.zero_le _

/-- A step that starts a transaction enters neither `O_START` nor `O_WAIT`. -/
theorem StartsOrSettles.not_starts_of_phase {i : Instr} (h : StartsOrSettles i s t)
    (hphase : t.orcPhase = .start ∨ t.orcPhase = .wait) : ¬ StartsTransaction i s := by
  obtain ⟨-, lerr, rfl⟩ | ⟨hnot, -⟩ := h
  · obtain hidle | ⟨hwake, -⟩ := startTransaction_orcPhase lerr (madeBusy s)
    · simp [hidle] at hphase
    · simp [hwake] at hphase
  · exact hnot

end Sys2Proof.Machine

namespace Sys2Proof.Proofs

open Sys2Proof.Machine

/-- Settles O30: the TIME's settle is `O_WAIT`'s arm on the new time, and with no frame the timeout's bound decides it. -/
theorem timeoutEndsWaitStep : Obligations.TimeoutEndsWaitStep := by
  unfold Obligations.TimeoutEndsWaitStep
  intro s t t0 lerr h hphase hdone ht0
  have hsettle : exec (.time t lerr) s = execOrcWait (setNow t (freshLog s)) :=
    (execTime_of_legal h.legal t lerr).trans (execOrcEval_of_phase (s := setNow t (freshLog s)) hphase lerr)
  exact ⟨fun hover => hsettle.trans (execOrcWait_of_le (s := setNow t (freshLog s)) ht0 hdone hover),
    fun hearly => hsettle.trans (execOrcWait_of_lt (s := setNow t (freshLog s)) ht0 hdone hearly)⟩

/-- Settles O31: a step starts a transaction, from `O_IDLE` on a sound state, or its settle moves the one in flight. -/
theorem onePhasePerStep : Obligations.OnePhasePerStep := by
  unfold Obligations.OnePhasePerStep
  exact fun _ _ _ hi hinv ht hne => (exec_startsOrSettles hi ht).phase_moves hinv hne

/-- Settles O32: only the settle leaves a hold, with its bound elapsed, unless the step starts a transaction; such a step enters
neither of the next phases, and none starts one in `S_BUSY`. -/
theorem holdsAreLowerBounds : Obligations.HoldsAreLowerBounds := by
  unfold Obligations.HoldsAreLowerBounds
  intro i s t t0 hi ht0 ht
  have hstep := exec_startsOrSettles hi ht
  have hbound {p : OrcPhase} (hnot : ¬ StartsTransaction i s) (hphase : s.orcPhase = p) (hne : t.orcPhase ≠ p) :
      holdBound s.cfg p ≤ (t.now - t0).toNat := hphase ▸ hstep.holdBound_le hnot ht0 (hphase ▸ hne)
  refine ⟨fun hwake hstart => ?_, fun hstart hwait => ?_, fun hbusy => ?_⟩
  · exact hbound (hstep.not_starts_of_phase (.inl hstart)) hwake (by simp [hstart])
  · exact hbound (hstep.not_starts_of_phase (.inr hwait)) hstart (by simp [hwait])
  · have hnot : ¬ StartsTransaction i s := fun ⟨_, hrun, _⟩ => by simp [hbusy] at hrun
    exact ⟨hbound hnot, hbound hnot⟩

/-- Settles O33: a transaction's start counts its attempt, and neither the settle nor another stimulus's effect writes the
counter. -/
theorem attemptsCountTransactions : Obligations.AttemptsCountTransactions := by
  unfold Obligations.AttemptsCountTransactions
  refine ⟨satInc_toNat, fun i s t hi ht => ?_⟩
  have hstep := exec_startsOrSettles hi ht
  split_ifs with hstart
  · exact hstep.attempts_eq_of_starts hstart
  · exact hstep.attempts_eq_of_not_starts hstart

end Sys2Proof.Proofs
end

section
/-! The Validator (42_validator.md): what the checksum and the two fields are as arithmetic on the frame's value, what VALIDATE
answers on each kind of state, and that only its acceptance writes the Reading. -/

namespace Sys2Proof.Machine

variable {s t : State} {F : Frame}

/-! ## The frame's bytes and fields (R51, R131, R133, R134) -/

theorem frameByte_toNat (F : Frame) (k : Nat) : (frameByte F k).toNat = F.toNat / 2 ^ (32 - 8 * k) % 256 := by
  simp [frameByte, BitVec.extractLsb'_toNat, Nat.shiftRight_eq_div_pow]

/-- The top byte needs no reduction. -/
theorem checksumOk_iff (F : Frame) :
    checksumOk F = true ↔
      (F.toNat / 2 ^ 32 + F.toNat / 2 ^ 24 % 256 + F.toNat / 2 ^ 16 % 256 + F.toNat / 2 ^ 8 % 256) % 256 =
        F.toNat % 256 := by
  have htop : F.toNat / 2 ^ 32 % 256 = F.toNat / 2 ^ 32 := by omega
  simp only [checksumOk, decide_eq_true_iff, zext, frameByte_toNat, Nat.reduceMul, Nat.reduceSub, htop, pow_zero,
    Nat.div_one]

/-- The sign bit of `F[39:24]` is `F[39]`. -/
theorem humidity_eq (F : Frame) :
    humidity F = if F.toNat / 2 ^ 39 = 1 then (F.toNat / 2 ^ 24 : Int) - 2 ^ 16 else (F.toNat / 2 ^ 24 : Int) := by
  have hfield : (F.extractLsb' 24 16).toNat = F.toNat / 2 ^ 24 := by
    rw [BitVec.extractLsb'_toNat, Nat.shiftRight_eq_div_pow]
    omega
  rw [humidity, sext, BitVec.toInt_eq_toNat_cond, hfield]
  split_ifs <;> omega

theorem temperature_eq (F : Frame) :
    temperature F =
      if F.toNat / 2 ^ 23 % 2 = 1 then -(F.toNat / 2 ^ 8 % 2 ^ 15 : Int) else (F.toNat / 2 ^ 8 % 2 ^ 15 : Int) := by
  have hsign : F.getLsbD 23 = decide (F.toNat / 2 ^ 23 % 2 = 1) := by
    rw [BitVec.getLsbD, Nat.testBit_eq_decide_div_mod_eq]
  have hmagnitude : (F.extractLsb' 8 15).toNat = F.toNat / 2 ^ 8 % 2 ^ 15 := by
    rw [BitVec.extractLsb'_toNat, Nat.shiftRight_eq_div_pow]
  simp only [temperature, zext, hsign, hmagnitude, decide_eq_true_iff]
  norm_cast

theorem humidity_mem (F : Frame) : -32768 ≤ humidity F ∧ humidity F ≤ 32767 := by
  rw [humidity_eq]
  split_ifs <;> omega

theorem temperature_mem (F : Frame) : -32767 ≤ temperature F ∧ temperature F ≤ 32767 := by
  rw [temperature_eq]
  split_ifs <;> omega

/-- A 16-bit register holds every value of its range exactly (R32, R140). -/
theorem toTenths_toInt {x : Int} (hle : -32768 ≤ x) (hge : x ≤ 32767) : (toTenths x).toInt = x := by
  rw [toTenths, BitVec.toInt_ofInt, Int.bmod_eq_of_le] <;> omega

/-! ## The plausibility filter (R135) -/

theorem implausible_eq_true_iff {cfg : Config} {x y px py : Int} :
    implausible cfg x y px py = true ↔ cfg.plausDt < (x - px).natAbs ∨ cfg.plausDrh < (y - py).natAbs := by
  simp [implausible]

theorem implausible_eq_false_iff {cfg : Config} {x y px py : Int} :
    implausible cfg x y px py = false ↔ (x - px).natAbs ≤ cfg.plausDt ∧ (y - py).natAbs ≤ cfg.plausDrh := by
  simp [implausible]

/-! ## VALIDATE's decision and its writes (R130, R132, R136 to R139) -/

theorem judge_of_checksum_fails (hF : s.rxFrame = some F) (hsum : checksumOk F = false) :
    judge s = .ok .checksumError := by
  simp [judge, hF, hsum]

theorem judge_of_no_baseline (hF : s.rxFrame = some F) (hsum : checksumOk F = true) (hvalid : s.prevValid = false) :
    judge s = .ok (acceptance (temperature F) (humidity F) s) := by
  simp [judge, hF, hsum, hvalid]

theorem judge_of_baseline {pt prh : Tenths} (hF : s.rxFrame = some F) (hsum : checksumOk F = true)
    (hvalid : s.prevValid = true) (hpt : s.prevT = some pt) (hprh : s.prevRh = some prh) :
    judge s = .ok (if implausible s.cfg (temperature F) (humidity F) pt.toInt prh.toInt
      then .plausibilityError (temperature F) (humidity F) else acceptance (temperature F) (humidity F) s) := by
  simp only [judge, hF, hsum, hvalid, hpt, hprh, sext, if_true]
  exact (apply_ite Except.ok _ _ _).symm

/-- An acceptance writes the same registers whether it is the first or not; only the status tells (R136, R138). -/
theorem applyVerdict_acceptance (x y : Int) (s : State) :
    applyVerdict (acceptance x y s) s =
      { acceptReading x y (setBaseline x y s) with
        lastStatus := if s.accepted = 0 then .acceptFirst else .accept } := by
  unfold acceptance
  split_ifs <;> rfl

theorem execValidate_of_acceptance {x y : Int} (hv : judge s = .ok (acceptance x y s)) :
    execValidate s =
      .next { acceptReading x y (setBaseline x y s) with
              lastStatus := if s.accepted = 0 then .acceptFirst else .accept } :=
  (execValidate_of_judge hv).trans (congrArg Host.Outcome.next (applyVerdict_acceptance x y s))

/-! ## Only an acceptance writes the Reading (R138) -/

/-- The registers of the Reading and its count. -/
def readingRegs (s : State) : (Option Tenths × Option Tenths) × Count := ((s.rdT, s.rdRh), s.accepted)

/-- `t` holds an accepted frame, with all that R138 writes for it; `count` is the number of acceptances before it. -/
def HoldsAcceptance (count : Count) (t : State) : Prop :=
  ∃ F, t.rxFrame = some F ∧ checksumOk F = true ∧ t.rdT = some (toTenths (temperature F)) ∧
    t.rdRh = some (toTenths (humidity F)) ∧ t.prevT = t.rdT ∧ t.prevRh = t.rdRh ∧ t.accepted = satInc count ∧
    t.lastStatus = (if count = 0 then .acceptFirst else .accept)

theorem applyVerdict_keeps_or_accepts {v : Verdict} (hv : judge s = .ok v) :
    readingRegs (applyVerdict v s) = readingRegs s ∨ HoldsAcceptance s.accepted (applyVerdict v s) := by
  obtain ⟨F, hF, ⟨-, rfl⟩ | ⟨hsum, ⟨-, rfl⟩ | rfl⟩⟩ := judge_eq_ok hv
  · exact .inl rfl
  · exact .inl rfl
  · rw [applyVerdict_acceptance]
    exact .inr ⟨F, hF, hsum, rfl, rfl, rfl, rfl, rfl, rfl⟩

theorem readingRegs_endWakeHold (lerr : Bool) (s : State) : readingRegs (endWakeHold lerr s) = readingRegs s := by
  obtain ⟨-, -, heq⟩ | ⟨-, heq⟩ := endWakeHold_cases lerr s <;> exact (congrArg readingRegs heq).trans rfl

theorem readingRegs_endStartHold (lerr : Bool) (s : State) : readingRegs (endStartHold lerr s) = readingRegs s := by
  obtain ⟨-, -, heq⟩ | ⟨-, heq⟩ := endStartHold_cases lerr s <;> exact (congrArg readingRegs heq).trans rfl

theorem readingRegs_startTransaction (lerr : Bool) (s : State) :
    readingRegs (startTransaction lerr s) = readingRegs s := by
  obtain ⟨-, -, heq⟩ | ⟨-, heq⟩ := startTransaction_cases lerr s <;> exact (congrArg readingRegs heq).trans rfl

/-- The settle writes the Reading only where it hands a frame over that VALIDATE accepts; the transaction's end behind it writes
neither the frame nor what VALIDATE wrote. -/
theorem execOrcEval_keeps_or_accepts {lerr : Bool} (h : execOrcEval lerr s = .next t) :
    readingRegs t = readingRegs s ∨ HoldsAcceptance s.accepted t := by
  obtain ⟨rfl, -⟩ | ⟨_, -, -, -, rfl⟩ | ⟨_, -, -, -, rfl⟩ | ⟨F, v, -, -, -, hv, rfl⟩ | ⟨_, -, -, -, -, rfl⟩ :=
    execOrcEval_eq_next h
  · exact .inl rfl
  · exact .inl (readingRegs_endWakeHold lerr s)
  · exact .inl (readingRegs_endStartHold lerr s)
  · exact applyVerdict_keeps_or_accepts hv
  · exact .inl rfl

theorem DecoderOnly.readingRegs_eq (h : DecoderOnly s t) : readingRegs t = readingRegs s :=
  (congrArg readingRegs (show t = _ from h)).trans rfl

theorem readingRegs_tickArm {lerr : Bool} (h : tickArm lerr s = .next t) : readingRegs t = readingRegs s := by
  obtain ⟨-, -, rfl⟩ | ⟨-, -, rfl⟩ | ⟨-, rfl⟩ := tickArm_eq_next h
  · exact readingRegs_startTransaction lerr { s with schState := .busy }
  · rfl
  · rfl

/-- Where a stimulus's own effect leaves the Reading and its count, they change only by the settle's acceptance (R150). -/
theorem settled_keeps_or_accepts {lerr : Bool} {p : State → Result}
    (hp : ∀ u v : State, p u = .next v → readingRegs v = readingRegs u) (ht : settled lerr p s = .next t) :
    readingRegs t = readingRegs s ∨ HoldsAcceptance s.accepted t := by
  obtain ⟨-, u, hu, hsettle⟩ := settled_eq_next_iff.mp ht
  have hregs : readingRegs u = readingRegs s := hp (freshLog s) u hu
  have hcount : u.accepted = s.accepted := congrArg Prod.snd hregs
  rw [← hregs, ← hcount]
  exact execOrcEval_keeps_or_accepts hsettle

theorem exec_keeps_or_accepts {i : Instr} (hi : settles i = true) (ht : exec i s = .next t) :
    readingRegs t = readingRegs s ∨ HoldsAcceptance s.accepted t := by
  cases i with
  | trans ts level => exact settled_keeps_or_accepts (fun _ _ hu => (transition_decoderOnly hu).readingRegs_eq) ht
  | time t' lerr =>
    exact settled_keeps_or_accepts (p := fun u => .next (setNow t' u)) (fun _ _ hu => by cases hu; rfl) ht
  | tick lerr => exact settled_keeps_or_accepts (fun _ _ hu => readingRegs_tickArm hu) ht
  | stop => exact settled_keeps_or_accepts (p := fun u => .next (requestStop u)) (fun _ _ hu => by cases hu; rfl) ht
  | _ => cases hi

end Sys2Proof.Machine

namespace Sys2Proof.Proofs

open Sys2Proof.Machine

/-- Settles O36. -/
theorem checksumIsByteSum : Obligations.ChecksumIsByteSum := by
  unfold Obligations.ChecksumIsByteSum
  exact checksumOk_iff

/-- Settles O37: each range lies within that of the 16-bit registers. -/
theorem fieldsDecodeExactly : Obligations.FieldsDecodeExactly := by
  unfold Obligations.FieldsDecodeExactly
  intro F
  obtain ⟨hhumLe, hhumGe⟩ := humidity_mem F
  obtain ⟨htempLe, htempGe⟩ := temperature_mem F
  exact ⟨humidity_eq F, hhumLe, hhumGe, temperature_eq F, htempLe, htempGe,
    toTenths_toInt (by omega) htempGe, toTenths_toInt hhumLe hhumGe⟩

/-- Settles O38. -/
theorem checksumMismatchWritesOnlyStatus : Obligations.ChecksumMismatchWritesOnlyStatus := by
  unfold Obligations.ChecksumMismatchWritesOnlyStatus
  exact fun s F hF hsum => execValidate_of_judge (judge_of_checksum_fails hF hsum)

/-- Settles O39: the filter decides between the rejection, which still sets the baseline, and the acceptance. -/
theorem validateChecksummedFrame : Obligations.ValidateChecksummedFrame := by
  unfold Obligations.ValidateChecksummedFrame
  intro s F pt prh hF hsum hpt hprh
  refine ⟨fun hvalid hpast => ?_, fun hvalid hT hRh => ?_⟩
  · refine execValidate_of_judge (v := .plausibilityError (temperature F) (humidity F)) ?_
    rw [judge_of_baseline hF hsum hvalid hpt hprh, if_pos (implausible_eq_true_iff.mpr hpast)]
  · refine execValidate_of_acceptance (x := temperature F) (y := humidity F) ?_
    rw [judge_of_baseline hF hsum hvalid hpt hprh, implausible_eq_false_iff.mpr ⟨hT, hRh⟩, if_neg Bool.false_ne_true]

/-- Settles O40: the filter is not asked, so only the status depends on what was accepted before. -/
theorem validateWithoutBaselineAccepts : Obligations.ValidateWithoutBaselineAccepts := by
  unfold Obligations.ValidateWithoutBaselineAccepts
  exact fun s F hF hsum hvalid => execValidate_of_acceptance (judge_of_no_baseline hF hsum hvalid)

/-- Settles O41: the first example is 60 tenths from the baseline, past the limit of 50, and the second 40. -/
theorem sourceFilterExamples : Obligations.SourceFilterExamples := by
  unfold Obligations.SourceFilterExamples
  intro cfg hdt hdrh
  rw [implausible_eq_true_iff, implausible_eq_false_iff, hdt, hdrh]
  decide

/-- Settles O42: a stimulus's own effect writes neither the Reading nor its count, and the settle writes them only with a frame
that VALIDATE accepts. -/
theorem onlyAcceptanceWritesReading : Obligations.OnlyAcceptanceWritesReading := by
  unfold Obligations.OnlyAcceptanceWritesReading
  intro i s t hi ht hchanged
  obtain hkept | haccepts := exec_keeps_or_accepts hi ht
  · simp only [readingRegs, Prod.mk.injEq] at hkept
    obtain ⟨⟨hT, hRh⟩, hcount⟩ := hkept
    simp [hT, hRh, hcount] at hchanged
  · exact haccepts

end Sys2Proof.Proofs
end

section
/-! The Poll Scheduler, TIME and STOP (43_scheduler.md): the result of each TICK arm, the end of a transaction, what a STOP and a
TIME leave to the settle, and the countdown between two transactions. -/

namespace Sys2Proof.Machine

variable {s t : State}

/-! ## The scheduler's mode and the transaction in flight (R37, R45) -/

theorem State.Inv.orcPhase_of_run (h : s.Inv) (hrun : s.schState = .run) : s.orcPhase = .idle := by
  by_contra hflight
  have hbusy := h.r45.busy_iff.mp hflight
  simp [hrun] at hbusy

theorem State.Inv.schState_of_idle (h : s.Inv) (hidle : s.orcPhase = .idle) :
    s.schState = .run ∨ s.schState = .stopped := by
  obtain ⟨-, -, -, -, hlegal, -⟩ := legal_iff.mp h.legal
  cases hsch : s.schState with
  | run => exact .inl rfl
  | busy => exact absurd hidle (h.r45.busy_iff.mpr hsch)
  | stopped => exact .inr rfl
  | reserved3 => exact absurd hsch hlegal

/-! ## TICK (R78, R150 to R153) -/

theorem tickArm_of_run (hrun : s.schState = .run) (lerr : Bool) :
    tickArm lerr s = if s.remaining = 0 then execTickStart lerr s else execTickCountdown s := by
  simp only [tickArm, hrun]

theorem tickArm_of_start (hrun : s.schState = .run) (hrem : s.remaining = 0) (lerr : Bool) :
    tickArm lerr s = .next (startTransaction lerr { s with schState := .busy }) :=
  (tickArm_of_run hrun lerr).trans (if_pos hrem)

theorem tickArm_of_countdown (hrun : s.schState = .run) (hrem : s.remaining ≠ 0) (lerr : Bool) :
    tickArm lerr s = .next { s with remaining := s.remaining - 1 } :=
  (tickArm_of_run hrun lerr).trans (if_neg hrem)

theorem execTick_of_legal (h : s.Legal) (lerr : Bool) :
    exec (.tick lerr) s = andThen (tickArm lerr (freshLog s)) (execOrcEval lerr) :=
  settled_of_legal h lerr (tickArm lerr)

/-- The TICK that starts a transaction is its start alone: the settle behind it changes nothing. -/
theorem execTick_of_start (h : s.Legal) (hrun : s.schState = .run) (hrem : s.remaining = 0) (lerr : Bool) :
    exec (.tick lerr) s = .next (startTransaction lerr (madeBusy s)) := by
  rw [execTick_of_legal h, tickArm_of_start (s := freshLog s) hrun hrem]
  exact execOrcEval_startTransaction lerr lerr (madeBusy s)

/-- With a delay left a TICK takes one off it, there being no transaction for the settle to move. -/
theorem execTick_of_countdown (h : s.Inv) (hrun : s.schState = .run) (hrem : s.remaining ≠ 0) (lerr : Bool) :
    exec (.tick lerr) s = .next { freshLog s with remaining := s.remaining - 1 } := by
  rw [execTick_of_legal h.legal, tickArm_of_countdown (s := freshLog s) hrun hrem]
  exact execOrcEval_of_idle (s := { freshLog s with remaining := s.remaining - 1 }) (h.orcPhase_of_run hrun) lerr

theorem now_of_tickArm {lerr : Bool} (h : tickArm lerr s = .next t) : t.now = s.now := by
  obtain ⟨-, -, rfl⟩ | ⟨-, -, rfl⟩ | ⟨-, rfl⟩ := tickArm_eq_next h
  · obtain ⟨-, -, heq⟩ | ⟨-, heq⟩ := startTransaction_cases lerr { s with schState := .busy } <;>
      exact congrArg (·.now) heq
  · rfl
  · rfl

theorem toNat_pred_delay {r : DelayTicks} (h : r ≠ 0) : (r - 1).toNat = r.toNat - 1 := by
  bv_omega

/-! ## TXN_END (R154, R155) -/

/-- The delay table on the configuration's numbers: a register of 16 bits holds both of them (R9, R193). -/
theorem delay_toNat (cfg : Config) (o : TxnOutcome) :
    (delay cfg o).toNat =
      if o = .lineError ∨ o = .timeoutError ∨ o = .accepted then cfg.defaultDelay else cfg.shortDelay := by
  have hdefault : (BitVec.ofNat 16 cfg.defaultDelay).toNat = cfg.defaultDelay :=
    (BitVec.toNat_ofNat _ _).trans (Nat.mod_eq_of_lt cfg.defaultDelay_lt)
  have hshort : (BitVec.ofNat 16 cfg.shortDelay).toNat = cfg.shortDelay :=
    (BitVec.toNat_ofNat _ _).trans (Nat.mod_eq_of_lt cfg.shortDelay_lt)
  cases o with
  | lineError | timeoutError | accepted => simpa [delay] using hdefault
  | checksumError | plausibilityError | acceptedFirst => simpa [delay] using hshort

/-! ## STOP (R158) -/

/-- A STOP latches the request on a fresh log and settles. -/
theorem execStop_of_legal (h : s.Legal) : exec .stop s = execOrcEval false (requestStop (freshLog s)) :=
  settled_of_legal h false fun u => .next (requestStop u)

/-- Without a transaction in flight the scheduler is in `S_RUN`, or stopped already. -/
theorem requestStop_of_idle (h : s.Inv) (hidle : s.orcPhase = .idle) :
    requestStop s = { s with stopReq := true, schState := .stopped } := by
  obtain hrun | hstopped := h.schState_of_idle hidle
  · simp [requestStop, hrun]
  · simp [requestStop, hstopped]

/-- With one in flight it stays busy. -/
theorem requestStop_of_inFlight (h : s.Inv) (hphase : s.orcPhase ≠ .idle) :
    requestStop s = { s with stopReq := true } := by
  have hbusy := h.r45.busy_iff.mp hphase
  simp [requestStop, hbusy]

/-! ## The settle (R112, R150) -/

/-- The phase in flight, entered at `t0`, is not over: its hold lasts, or it waits for its frame within the timeout. -/
def PhaseLasts (s : State) (t0 : Time) : Prop :=
  s.orcPhase = .wake ∧ (s.now - t0).toNat < s.cfg.tWakeUs ∨
    s.orcPhase = .start ∧ (s.now - t0).toNat < s.cfg.tStartUs ∨
    s.orcPhase = .wait ∧ s.done = false ∧ (s.now - t0).toNat < s.cfg.tTimeoutUs

theorem PhaseLasts.orcPhase_ne_idle {t0 : Time} (h : PhaseLasts s t0) : s.orcPhase ≠ .idle := by
  obtain ⟨hphase, -⟩ | ⟨hphase, -⟩ | ⟨hphase, -⟩ := h <;> simp [hphase]

/-- The settle changes nothing while the phase lasts. -/
theorem PhaseLasts.execOrcEval_eq {t0 : Time} (h : PhaseLasts s t0) (ht0 : s.phaseT0 = some t0) (lerr : Bool) :
    execOrcEval lerr s = .next s := by
  obtain ⟨hphase, hearly⟩ | ⟨hphase, hearly⟩ | ⟨hphase, hdone, hearly⟩ := h
  · exact (execOrcEval_of_phase hphase lerr).trans (execOrcWake_of_lt ht0 hearly lerr)
  · exact (execOrcEval_of_phase hphase lerr).trans (execOrcStart_of_lt ht0 hearly lerr)
  · exact (execOrcEval_of_phase hphase lerr).trans (execOrcWait_of_lt ht0 hdone hearly)

/-- The time after a stimulus is the one that its own effect left. -/
theorem now_of_settled {lerr : Bool} {p : State → Result} (h : settled lerr p s = .next t) :
    ∃ u, p (freshLog s) = .next u ∧ t.now = u.now := by
  obtain ⟨-, u, hu, hsettle⟩ := settled_eq_next_iff.mp h
  obtain ⟨hnow, -⟩ := execOrcEval_keeps_now_attempts hsettle
  exact ⟨u, hu, hnow⟩

theorem DecoderOnly.now_eq (h : DecoderOnly s t) : t.now = s.now :=
  (congrArg (·.now) (show t = _ from h)).trans rfl

/-- Of the stimuli that settle, TIME alone writes `now` (R31). -/
theorem now_of_exec {i : Instr} (hi : settles i = true) (h : exec i s = .next t) :
    (∃ t' lerr, i = .time t' lerr ∧ t.now = t') ∨ ((∀ t' lerr, i ≠ .time t' lerr) ∧ t.now = s.now) := by
  cases i with
  | time t' lerr =>
    obtain ⟨u, hu, hnow⟩ := now_of_settled (p := fun v => .next (setNow t' v)) h
    cases hu
    exact .inl ⟨t', lerr, rfl, hnow⟩
  | trans ts level =>
    obtain ⟨u, hu, hnow⟩ := now_of_settled h
    exact .inr ⟨nofun, hnow.trans (transition_decoderOnly hu).now_eq⟩
  | tick lerr =>
    obtain ⟨u, hu, hnow⟩ := now_of_settled h
    exact .inr ⟨nofun, hnow.trans (now_of_tickArm (s := freshLog s) hu)⟩
  | stop =>
    obtain ⟨u, hu, hnow⟩ := now_of_settled (p := fun v => .next (requestStop v)) h
    cases hu
    exact .inr ⟨nofun, hnow⟩
  | _ => cases hi

/-! ## The countdown (R152, R156) -/

theorem step_tickWord {ws : List StimWord} (hq : s.stimuli = 0x3000000000 :: ws) :
    step s = exec (.tick false) (withStimuli ws s) := by
  have hword : decodeStim 0x3000000000 = .tick false := decodeStim_tickWord false
  rw [step_of_stimulus hq, hword]
  rfl

theorem step_of_countdown {ws : List StimWord} (h : s.Inv) (hrun : s.schState = .run) (hrem : s.remaining ≠ 0)
    (hq : s.stimuli = 0x3000000000 :: ws) : step s = .next { wordTaken ws s with remaining := s.remaining - 1 } :=
  (step_tickWord hq).trans (execTick_of_countdown (s := withStimuli ws s) (h.withStimuli ws) hrun hrem false)

/-- `s` is a sound state in `S_RUN` with `n` ticks to count, the words of `n` TICKs and then `ws` to come, and `count` attempts
made. -/
structure CountsDown (count : Count) (s : State) (n : Nat) (ws : List StimWord) : Prop where
  inv : s.Inv
  schState_eq : s.schState = .run
  remaining_eq : s.remaining.toNat = n
  attempts_eq : s.attempts = count
  stimuli_eq : s.stimuli = List.replicate n 0x3000000000 ++ ws

variable {count : Count} {n : Nat} {ws : List StimWord}

/-- One TICK counts one off. -/
theorem CountsDown.step (h : CountsDown count s (n + 1) ws) :
    ∃ t, Machine.step s = .next t ∧ CountsDown count t n ws := by
  obtain ⟨hinv, hrun, hremaining, hattempts, hstimuli⟩ := h
  have hrem : s.remaining ≠ 0 := fun hzero => by simp [hzero] at hremaining
  rw [List.replicate_succ, List.cons_append] at hstimuli
  have hstep := step_of_countdown hinv hrun hrem hstimuli
  have hpred : (s.remaining - 1).toNat = n := by rw [toNat_pred_delay hrem, hremaining, Nat.add_sub_cancel]
  exact ⟨_, hstep, step_keeps_inv hinv hstep, hrun, hpred, hattempts, rfl⟩

theorem CountsDown.run (h : CountsDown count s n ws) : ∃ t, core.run n s = .next t ∧ CountsDown count t 0 ws := by
  induction n generalizing s with
  | zero => exact ⟨s, rfl, h⟩
  | succ n ih =>
    obtain ⟨u, hstep, hu⟩ := h.step
    obtain ⟨t, hrun, ht⟩ := ih hu
    exact ⟨t, (run_succ_of_step hstep n).trans hrun, ht⟩

theorem CountsDown.remaining_eq_zero (h : CountsDown count s 0 ws) : s.remaining = 0 :=
  BitVec.eq_of_toNat_eq h.remaining_eq

/-- The TICK after the countdown starts a transaction. -/
theorem CountsDown.step_starts (h : CountsDown count s 0 (0x3000000000 :: ws)) :
    Machine.step s = .next (startTransaction false (madeBusy (withStimuli ws s))) :=
  (step_tickWord h.stimuli_eq).trans
    (execTick_of_start (h.inv.withStimuli ws).legal h.schState_eq h.remaining_eq_zero false)

end Sys2Proof.Machine

namespace Sys2Proof.Proofs

open Sys2Proof.Machine

/-- Settles O6. -/
theorem stepRunsDecodedWord : Obligations.StepRunsDecodedWord := by
  unfold Obligations.StepRunsDecodedWord
  exact ⟨fun _ _ _ => step_of_stimulus, execStep_eq, fun _ => step_of_none⟩

/-- Settles O43: with a delay left the decrement does not wrap; the other arms are equations of the model. -/
theorem tickArmsResult : Obligations.TickArmsResult := by
  unfold Obligations.TickArmsResult
  exact fun s => ⟨fun _ => rfl, fun _ => rfl, fun hrem => ⟨s.remaining - 1, rfl, toNat_pred_delay hrem⟩,
    fun lerr => ⟨startTransaction lerr { s with schState := .busy }, rfl, rfl⟩⟩

/-- Settles O46. -/
theorem txnEndSetsDelayAndMode : Obligations.TxnEndSetsDelayAndMode := by
  unfold Obligations.TxnEndSetsDelayAndMode
  exact fun s o => ⟨delay s.cfg o, rfl, delay_toNat s.cfg o⟩

/-- Settles O45: the settle behind the start changes nothing, and the line error's `O_IDLE` is the phase that the state in `S_RUN`
already had. -/
theorem tickStartsTransaction : Obligations.TickStartsTransaction := by
  unfold Obligations.TickStartsTransaction
  intro s h hrun hrem
  have hstart := execTick_of_start h.legal hrun hrem
  refine ⟨(hstart false).trans (congrArg Host.Outcome.next (startTransaction_ok rfl)), ?_⟩
  rw [hstart true, startTransaction_err rfl, lineError_eq, ← h.orcPhase_of_run hrun]
  rfl

/-- Settles O47: the request is latched before the settle, which finds no transaction, or a phase that still lasts. -/
theorem stopLatchesRequest : Obligations.StopLatchesRequest := by
  unfold Obligations.StopLatchesRequest
  refine ⟨fun s => execStop_of_legal, fun s h => ⟨fun hidle => ?_, fun t0 ht0 hlasts => ?_⟩⟩
  · rw [execStop_of_legal h.legal, requestStop_of_idle h.freshLog hidle]
    exact execOrcEval_of_idle (s := { freshLog s with stopReq := true, schState := .stopped }) hidle false
  · have hphase : PhaseLasts s t0 := hlasts
    rw [execStop_of_legal h.legal, requestStop_of_inFlight h.freshLog hphase.orcPhase_ne_idle]
    exact PhaseLasts.execOrcEval_eq (s := { freshLog s with stopReq := true }) hlasts ht0 false

/-- Settles O48: a TIME is its write of `now` and the settle, the settle writes no time, and the settle's result is that of the
phase on the new time. -/
theorem onlyTimeWritesNow : Obligations.OnlyTimeWritesNow := by
  unfold Obligations.OnlyTimeWritesNow
  refine ⟨fun s t lerr h => execTime_of_legal h t lerr, fun i s u hi hu => ?_, fun s t lerr h hidle => ?_,
    fun s t t0 h hphase ht0 hover => ?_⟩
  · obtain ⟨t, lerr, rfl, hnow⟩ | ⟨hne, hnow⟩ := now_of_exec hi hu
    · exact hnow
    · split
      next t lerr => exact absurd rfl (hne t lerr)
      next => exact hnow
  · exact (execTime_of_legal h.legal t lerr).trans (execOrcEval_of_idle (s := setNow t (freshLog s)) hidle lerr)
  · calc exec (.time t false) s = execOrcEval false (setNow t (freshLog s)) := execTime_of_legal h.legal t false
      _ = execOrcStart false (setNow t (freshLog s)) := execOrcEval_of_phase (s := setNow t (freshLog s)) hphase false
      _ = .next (endStartHold false (setNow t (freshLog s))) :=
        execOrcStart_of_le (s := setNow t (freshLog s)) ht0 hover false
      _ = _ := congrArg Host.Outcome.next (endStartHold_ok rfl)

/-- Settles O50, by induction on the delay: each TICK counts one off and starts nothing, and at 0 the next one starts a
transaction. -/
theorem ticksCountDownThenStart : Obligations.TicksCountDownThenStart := by
  unfold Obligations.TicksCountDownThenStart
  intro s ws h hrun hq
  rw [List.replicate_succ', List.append_assoc] at hq
  have hcounts : CountsDown s.attempts s s.remaining.toNat (0x3000000000 :: ws) := ⟨h, hrun, rfl, rfl, hq⟩
  obtain ⟨t, hruns, ht⟩ := hcounts.run
  have hstep := ht.step_starts
  rw [startTransaction_ok rfl] at hstep
  exact ⟨t, _, hruns, ht.schState_eq, ht.remaining_eq_zero, ht.attempts_eq, hstep, rfl, rfl,
    congrArg satInc ht.attempts_eq, rfl⟩

end Sys2Proof.Proofs
end

section
/-! The exceptions (60_exceptions.md R175): what a step leaves when the line operation that ends the wake hold fails. -/

namespace Sys2Proof.Machine

variable {s : State} {t0 : Time}

/-- On a fresh log the failing operation and LineError's read mode are the step's two log entries (R119). -/
theorem endWakeHold_err_eq (hlog : s.log = []) :
    endWakeHold true s =
      { s with log := [(.driveLow, .err), (.readMode, .ok)], lineMode := .read, lastStatus := .line, orcPhase := .idle,
               remaining := delay s.cfg .lineError, schState := if s.stopReq = true then .stopped else .run } :=
  (endWakeHold_err hlog).trans (lineError_eq { s with log := [(.driveLow, .err)] })

/-- In `O_WAKE` a TIME that reaches the hold's bound ends the hold on the new time (R113, R150). -/
theorem execTime_of_wakeOver (h : s.Legal) (hphase : s.orcPhase = .wake) (ht0 : s.phaseT0 = some t0) {t : Time}
    (hover : s.cfg.tWakeUs ≤ (t - t0).toNat) (lerr : Bool) :
    exec (.time t lerr) s = .next (endWakeHold lerr (setNow t (freshLog s))) :=
  calc exec (.time t lerr) s
    _ = execOrcEval lerr (setNow t (freshLog s)) := execTime_of_legal h t lerr
    _ = execOrcWake lerr (setNow t (freshLog s)) := execOrcEval_of_phase (s := setNow t (freshLog s)) hphase lerr
    _ = .next (endWakeHold lerr (setNow t (freshLog s))) :=
      execOrcWake_of_le (s := setNow t (freshLog s)) ht0 hover lerr

end Sys2Proof.Machine

namespace Sys2Proof.Proofs

open Sys2Proof.Machine

/-- Settles O29: the TIME ends the hold on a fresh log, where the failing operation is LineError's result. -/
theorem lineErrorEndsWakeStep : Obligations.LineErrorEndsWakeStep := by
  unfold Obligations.LineErrorEndsWakeStep
  intro s t t0 h hphase ht0 hover
  exact (execTime_of_wakeOver h.legal hphase ht0 hover true).trans
    (congrArg Host.Outcome.next (endWakeHold_err_eq (s := setNow t (freshLog s)) rfl))

end Sys2Proof.Proofs
end

section
/-! Reset, the configuration and the end of a run (70_reset_and_hazards.md): what a stimulus leaves on a stopped scheduler, what
RESET leaves of the state it finds, and when a run starts. -/

namespace Sys2Proof.Machine

variable {s t : State}

/-! ## A stopped scheduler (R45, R162, R205) -/

theorem State.Inv.orcPhase_of_stopped (h : s.Inv) (hstopped : s.schState = .stopped) : s.orcPhase = .idle := by
  by_contra hflight
  have hbusy := h.r45.busy_iff.mp hflight
  simp [hstopped] at hbusy

theorem tickArm_of_stopped (hstopped : s.schState = .stopped) (lerr : Bool) : tickArm lerr s = .next s := by
  simp only [tickArm, hstopped, execTickStopped]

theorem requestStop_of_stopped (hstopped : s.schState = .stopped) : requestStop s = { s with stopReq := true } := by
  simp [requestStop, hstopped]

/-- The registers that R205 keeps once the scheduler is stopped, behind the phase, which keeps the settle from writing them. -/
def endedRegs (s : State) :
    OrcPhase × SchState × DelayTicks × Option Tenths × Option Tenths × Count × Count × Status :=
  (s.orcPhase, s.schState, s.remaining, s.rdT, s.rdRh, s.attempts, s.accepted, s.lastStatus)

theorem endedRegs_eq_iff :
    endedRegs t = endedRegs s ↔
      t.orcPhase = s.orcPhase ∧ t.schState = s.schState ∧ t.remaining = s.remaining ∧ t.rdT = s.rdT ∧ t.rdRh = s.rdRh ∧
        t.attempts = s.attempts ∧ t.accepted = s.accepted ∧ t.lastStatus = s.lastStatus := by
  simp [endedRegs]

theorem DecoderOnly.endedRegs_eq (h : DecoderOnly s t) : endedRegs t = endedRegs s :=
  (congrArg endedRegs (show t = _ from h)).trans rfl

/-- In `O_IDLE` a stimulus whose own effect keeps these registers keeps them: the settle finds no transaction (R114). -/
theorem settled_keeps_endedRegs {lerr : Bool} {p : State → Result} (hidle : s.orcPhase = .idle)
    (hp : ∀ u, p (freshLog s) = .next u → endedRegs u = endedRegs s) (ht : settled lerr p s = .next t) :
    endedRegs t = endedRegs s := by
  obtain ⟨-, u, hu, hsettle⟩ := settled_eq_next_iff.mp ht
  have hregs := hp u hu
  obtain ⟨hphase, -⟩ := endedRegs_eq_iff.mp hregs
  rw [execOrcEval_of_idle (hphase.trans hidle)] at hsettle
  cases hsettle
  exact hregs

theorem exec_keeps_endedRegs {i : Instr} (hi : settles i = true) (hidle : s.orcPhase = .idle)
    (hstopped : s.schState = .stopped) (ht : exec i s = .next t) : endedRegs t = endedRegs s := by
  cases i with
  | trans ts level => exact settled_keeps_endedRegs hidle (fun _ hu => (transition_decoderOnly hu).endedRegs_eq) ht
  | time t' lerr =>
    exact settled_keeps_endedRegs (p := fun v => .next (setNow t' v)) hidle (fun _ hu => by cases hu; rfl) ht
  | tick lerr =>
    refine settled_keeps_endedRegs hidle (fun u hu => ?_) ht
    rw [tickArm_of_stopped (s := freshLog s) hstopped] at hu
    cases hu
    rfl
  | stop =>
    refine settled_keeps_endedRegs (p := fun v => .next (requestStop v)) hidle (fun u hu => ?_) ht
    rw [requestStop_of_stopped (s := freshLog s) hstopped] at hu
    cases hu
    rfl
  | _ => cases hi

/-! ## RESET (R47, R190) -/

theorem execReset_eq (s : State) : exec .reset s = .next (resetRegisters s) := rfl

/-- RESET changes nothing of the state that a run starts in. -/
theorem resetRegisters_resetWith (c : Config) : resetRegisters (State.resetWith c) = State.resetWith c := rfl

/-- The first TICK after reset is the start of a transaction, since `remaining` is 0 (R192). -/
theorem execTick_resetWith (c : Config) (lerr : Bool) :
    exec (.tick lerr) (State.resetWith c) = .next (startTransaction lerr (madeBusy (State.resetWith c))) :=
  execTick_of_start (resetWith_inv c).legal rfl rfl lerr

/-! ## The start of a run (R9, R193) -/

/-- `c` has the parameters that `r` writes down. -/
def CarriesParameters (r : RawConfig) (c : Config) : Prop :=
  c.tBitUs = r.tBitUs ∧ c.tWakeUs = r.tWakeUs ∧ c.tStartUs = r.tStartUs ∧ c.tTimeoutUs = r.tTimeoutUs ∧
    c.plausDt = r.plausDt ∧ c.plausDrh = r.plausDrh ∧ c.defaultDelay = r.defaultDelay ∧ c.shortDelay = r.shortDelay

variable {r : RawConfig}

theorem check_of_meets (h : r.Meets) : ∃ c, r.check = some c ∧ CarriesParameters r c :=
  ⟨_, dif_pos h, rfl, rfl, rfl, rfl, rfl, rfl, rfl, rfl⟩

theorem check_of_not_meets (h : ¬ r.Meets) : r.check = none := dif_neg h

theorem boot_of_check_some {c : Config} (h : r.check = some c) : boot r = .next (State.resetWith c) := by
  simp only [boot, h]

theorem boot_of_check_none (h : r.check = none) : boot r = .refused .badConfiguration := by
  simp only [boot, h]

theorem boot_eq_next (h : boot r = .next t) : ∃ c, t = State.resetWith c := by
  cases hcheck : r.check with
  | none => rw [boot_of_check_none hcheck] at h; cases h
  | some c => rw [boot_of_check_some hcheck] at h; cases h; exact ⟨c, rfl⟩

end Sys2Proof.Machine

namespace Sys2Proof.Proofs

open Sys2Proof.Machine

/-- Settles O51: a stopped scheduler has no transaction in flight, so the settle changes nothing, and no stimulus's own
effect writes these registers. -/
theorem stoppedIsTerminal : Obligations.StoppedIsTerminal := by
  unfold Obligations.StoppedIsTerminal
  intro i s t hi h hstopped ht
  have hregs := exec_keeps_endedRegs hi (h.orcPhase_of_stopped hstopped) hstopped ht
  obtain ⟨-, hsch, hkept⟩ := endedRegs_eq_iff.mp hregs
  exact ⟨hsch.trans hstopped, hkept⟩

/-- Settles O53: RESET's result is the reset state but for what RESET keeps, and a run starts in a reset state. -/
theorem resetSetsEveryRegister : Obligations.ResetSetsEveryRegister := by
  unfold Obligations.ResetSetsEveryRegister
  have hfixed (c : Config) : exec .reset (State.resetWith c) = .next (State.resetWith c) :=
    (execReset_eq _).trans (congrArg Host.Outcome.next (resetRegisters_resetWith c))
  refine ⟨execReset_eq, fun r t hboot => ?_, hfixed Config.standard⟩
  obtain ⟨c, rfl⟩ := boot_eq_next hboot
  exact hfixed c

/-- Settles O54: on the reset state's fresh log the start's line operation succeeds. -/
theorem firstTickAfterResetStarts : Obligations.FirstTickAfterResetStarts := by
  unfold Obligations.FirstTickAfterResetStarts
  intro c
  have htick := execTick_resetWith c false
  rw [startTransaction_ok rfl] at htick
  exact ⟨_, htick, rfl, rfl, rfl, rfl, rfl⟩

/-- Settles O55: boot refuses exactly where the check of the constraints fails, and the check writes no parameter. -/
theorem badConfigurationRefused : Obligations.BadConfigurationRefused := by
  unfold Obligations.BadConfigurationRefused
  intro r
  refine ⟨fun hbreaks => boot_of_check_none (check_of_not_meets hbreaks), fun hmeets => ?_⟩
  obtain ⟨c, hcheck, hparameters⟩ := check_of_meets hmeets
  exact ⟨c, boot_of_check_some hcheck, hparameters⟩

end Sys2Proof.Proofs
end
